-- ==== Sys2Proof/Word.lean ====
section
/-! DEFINITION. The word types of the block: bytes, half words, the 24-bit register words, 32-bit words (00 rule R7). -/

namespace Sys2Proof

/-- A byte: one cell of the chip register space (20 rule R62), one byte on the bus. -/
abbrev Byte := BitVec 8

/-- "u16" and, read with `BitVec.toInt`, "s16" (00 rule R7). -/
abbrev U16 := BitVec 16

/-- A 24-bit unsigned value: the FREQ24 format (30 rule R100). -/
abbrev U24 := BitVec 24

/-- "u32" and, read with `BitVec.toInt`, "s32" (00 rule R7). -/
abbrev U32 := BitVec 32

/-- An opaque handle of the caller (10 rule R26). Its width is the model's: DESIGN CHOICE, log 11. -/
abbrev Handle := BitVec 32

/-- The index of a clock source, 0 to 3 (42 rule R160). -/
abbrev ClkIdx := Fin 4

end Sys2Proof
end

