-- ==== Sys2Proof/Config.lean ====
section
/-! DEFINITION. The parameters of the block (00 rule R5), their constraints (00 rule R6), the suggested values, and the
free value that stands for what the chip answers. -/

namespace Sys2Proof

/-- One value for each of the four clock sources (42 rule R160). -/
structure PerClock (α : Type) where
  k0 : α
  k1 : α
  k2 : α
  k3 : α
deriving DecidableEq, Repr

/-- The value for source `k`. -/
def PerClock.get {α : Type} (p : PerClock α) (k : ClkIdx) : α :=
  match k with
  | 0 => p.k0
  | 1 => p.k1
  | 2 => p.k2
  | 3 => p.k3

/-- The parameters of 00 rule R5, under the names of its table. -/
structure Config where
  busDevAddr    : BitVec 7
  cmdSetPointer : Byte
  cmdBlockWrite : Byte
  cmdBlockRead  : Byte
  /-- `XPORT_TIMEOUT`: no rule depends on its value (40 rule R130). -/
  xportTimeout  : Nat
  aCtrlHi    : Byte
  aCtrlLo    : Byte
  aFreqStart : Byte
  aFreqInc   : Byte
  aNumInc    : Byte
  aSettle    : Byte
  aStatus    : Byte
  aTemp      : Byte
  aReal      : Byte
  aImag      : Byte
  fcInit    : BitVec 4
  fcStart   : BitVec 4
  fcIncr    : BitVec 4
  fcRepeat  : BitVec 4
  fcMtemp   : BitVec 4
  fcPdown   : BitVec 4
  fcStandby : BitVec 4
  vrHi   : Fin 4
  vrLo   : Fin 4
  pgaBit : Fin 4
  rstBit : Fin 8
  clkBit : Fin 8
  clkExtValue : BitVec 1
  multX1 : BitVec 2
  multX2 : BitVec 2
  multX4 : BitVec 2
  clkRate : PerClock U32
  intIdx  : ClkIdx
  /-- `CLK_PSC[k]`; the entry of the internal source is used by no rule. -/
  clkPsc  : PerClock U16
  clkThr  : PerClock U32
  couplingTauMs : Nat
  ticksPerMs    : Nat
  /-- `CALIB_AVERAGES`: "not used by any rule". -/
  calibAverages : Nat
deriving DecidableEq, Repr

/-- What the chip answers to one frame (20 rule R66): every field is free. `ok` is the verdict; `taken` says how many
byte effects of a failed frame reached the chip (20 rule R79); `b0`, `b1` are the bytes of a read; `ptr` is where the
chip's address pointer stands after a byte write or a byte receive, which no rule says (40 rule R121, rule R127). -/
structure Answer where
  ok    : Bool
  taken : Nat
  b0    : Byte
  b1    : Byte
  ptr   : Byte
deriving DecidableEq, Repr, Inhabited

/-- FREE VALUE (log 5): the chip's answer to the `n`-th frame, for a frame that the list of answers of the state does
not cover. It has no body: nothing can be proved of it. -/
opaque Config.freeAnswer : Nat → Answer

/-- The suggested constants of 00 rule R5 together with the example set PX of 95 (rates, thresholds, prescalers, wait).
Not facts about any chip: PRESUMED, log 4 and log 22. `XPORT_TIMEOUT` and `CALIB_AVERAGES` have no suggestion: 0. -/
def Config.suggested : Config :=
  { busDevAddr := 0x0D#7
    cmdSetPointer := 0xB0#8, cmdBlockWrite := 0xA0#8, cmdBlockRead := 0xA1#8
    xportTimeout := 0
    aCtrlHi := 0x80#8, aCtrlLo := 0x81#8, aFreqStart := 0x82#8, aFreqInc := 0x85#8, aNumInc := 0x88#8
    aSettle := 0x8A#8, aStatus := 0x8F#8, aTemp := 0x92#8, aReal := 0x94#8, aImag := 0x96#8
    fcInit := 0b0001#4, fcStart := 0b0010#4, fcIncr := 0b0011#4, fcRepeat := 0b0100#4
    fcMtemp := 0b1001#4, fcPdown := 0b1010#4, fcStandby := 0b1011#4
    vrHi := 2, vrLo := 1, pgaBit := 0, rstBit := 4, clkBit := 3, clkExtValue := 1#1
    multX1 := 0b00#2, multX2 := 0b01#2, multX4 := 0b11#2
    clkRate := { k0 := 65536#32, k1 := 524288#32, k2 := 2097152#32, k3 := 16777216#32 }
    intIdx := 3
    clkPsc := { k0 := 255#16, k1 := 31#16, k2 := 7#16, k3 := 0#16 }
    clkThr := { k0 := 10#32, k1 := 1000#32, k2 := 10000#32, k3 := 50000#32 }
    couplingTauMs := 1
    ticksPerMs := 1
    calibAverages := 0 }

/-- `CLK_EXT[k] = (k != INT_IDX)` (00 rule R5). -/
abbrev Config.isExternal (c : Config) (k : ClkIdx) : Bool := k != c.intIdx

/-- `WAIT_TICKS = 4 * COUPLING_TAU_MS * TICKS_PER_MS` (00 rule R5). -/
abbrev Config.waitTicks (c : Config) : Nat := 4 * c.couplingTauMs * c.ticksPerMs

/-- The ten registers of the chip that the block relies on, each with its first address and its length in bytes
(10 rule R40). -/
def Config.registers (c : Config) : List (Nat × Nat) :=
  [ (c.aCtrlHi.toNat, 1), (c.aCtrlLo.toNat, 1), (c.aFreqStart.toNat, 3), (c.aFreqInc.toNat, 3), (c.aNumInc.toNat, 2),
    (c.aSettle.toNat, 2), (c.aStatus.toNat, 1), (c.aTemp.toNat, 2), (c.aReal.toNat, 2), (c.aImag.toNat, 2) ]

/-- The seven function codes. -/
def Config.functionCodes (c : Config) : List (BitVec 4) :=
  [c.fcInit, c.fcStart, c.fcIncr, c.fcRepeat, c.fcMtemp, c.fcPdown, c.fcStandby]

/-- 00 rule R6 (a): the byte ranges are pairwise disjoint and do not wrap past 0xFF. -/
abbrev Config.WfAddresses (c : Config) : Prop :=
  (∀ r ∈ c.registers, r.1 + r.2 ≤ 256) ∧
  c.registers.Pairwise (fun r q => r.1 + r.2 ≤ q.1 ∨ q.1 + q.2 ≤ r.1)

/-- 00 rule R6 (b), (d), (i): codes and command bytes are distinct. -/
abbrev Config.WfCodes (c : Config) : Prop :=
  c.functionCodes.Nodup ∧ [c.multX1, c.multX2, c.multX4].Nodup ∧
  [c.cmdSetPointer, c.cmdBlockWrite, c.cmdBlockRead].Nodup ∧
  c.aCtrlHi ∉ [c.cmdSetPointer, c.cmdBlockWrite, c.cmdBlockRead] ∧
  c.aCtrlLo ∉ [c.cmdSetPointer, c.cmdBlockWrite, c.cmdBlockRead]

/-- 00 rule R6 (c): the bit positions (their ranges are in the types). -/
abbrev Config.WfPositions (c : Config) : Prop :=
  c.vrHi.val = c.vrLo.val + 1 ∧ c.pgaBit ≠ c.vrHi ∧ c.pgaBit ≠ c.vrLo ∧ c.rstBit ≠ c.clkBit

/-- 00 rule R6 (e), (f), (h), (j): rates, thresholds and the wait ((g) is in the type of `intIdx`). -/
abbrev Config.WfClocks (c : Config) : Prop :=
  0 < c.clkRate.k0.toNat ∧ c.clkRate.k0.toNat < c.clkRate.k1.toNat ∧ c.clkRate.k1.toNat < c.clkRate.k2.toNat ∧
  c.clkRate.k2.toNat < c.clkRate.k3.toNat ∧
  c.clkThr.k0.toNat < c.clkThr.k1.toNat ∧ c.clkThr.k1.toNat < c.clkThr.k2.toNat ∧
  c.clkThr.k2.toNat < c.clkThr.k3.toNat ∧
  32 * (c.clkThr.k1.toNat - 1) < c.clkRate.k0.toNat ∧ 32 * (c.clkThr.k2.toNat - 1) < c.clkRate.k1.toNat ∧
  32 * (c.clkThr.k3.toNat - 1) < c.clkRate.k2.toNat ∧
  c.waitTicks < 2 ^ 31

/-- 00 rule R6: what every admissible set of parameters meets. -/
abbrev Config.Wf (c : Config) : Prop :=
  c.WfAddresses ∧ c.WfCodes ∧ c.WfPositions ∧ c.WfClocks

end Sys2Proof
end

