-- ==== Sys2Proof/Syntax.lean ====
section
/-! DEFINITION. The operations of the block (one constructor per row of the opcode table), their operands, and the
words that stand for them on the block's ports. -/

namespace Sys2Proof

/-- The settling multiplier ×1, ×2, ×4 (10 rule R24, `SW_MULT`). -/
inductive SettleMult
  | x1 | x2 | x4
deriving DecidableEq, Repr, Inhabited

/-- The operand `sweep` of MEASURE_IMPEDANCE: six fields (30 rule R93). -/
structure SweepSpec where
  start      : U32
  increment  : U32
  increments : U16
  settle     : U16
  mult       : SettleMult
  averages   : U16
deriving DecidableEq, Repr

/-- The operand `range` of MEASURE_IMPEDANCE: four fields (30 rule R93). -/
structure RangeSettings where
  pga   : BitVec 1
  vr    : BitVec 2
  atten : U32
  rfb   : U32
deriving DecidableEq, Repr

/-- The 22 operations of spec/opcode_table.json (30 rule R99): eight HOST, six XPORT, seven CTRLHI, one CTRLLO.
The operands of a CTRLHI or CTRLLO row are the fields of its byte: the selectors `vr`, `pga` of 30 rule R97, the
reset bit `r` and clock-source bit `c` of 30 rule R98. -/
inductive Instr
  -- HOST, 30 rule R92
  | init
  | reset
  | isBusy
  | measureImpedance (sweep : SweepSpec) (range : RangeSettings) (buffer : Handle)
  | getSweepCount
  | measureTemperature (dest : Handle)
  | calibrate
  | tick
  -- XPORT, 30 rule R96
  | setAddr (a : Byte)
  | write8 (a : Byte) (v : Byte)
  | write16 (a : Byte) (v : U16)
  | write24 (a : Byte) (v : U24)
  | read8 (a : Byte)
  | read16 (a : Byte)
  -- CTRLHI, 30 rule R97
  | ccInit (vr : BitVec 2) (pga : BitVec 1)
  | ccStart (vr : BitVec 2) (pga : BitVec 1)
  | ccIncr (vr : BitVec 2) (pga : BitVec 1)
  | ccRepeat (vr : BitVec 2) (pga : BitVec 1)
  | ccMtemp (vr : BitVec 2) (pga : BitVec 1)
  | ccPdown (vr : BitVec 2) (pga : BitVec 1)
  | ccStandby (vr : BitVec 2) (pga : BitVec 1)
  -- CTRLLO, 30 rule R98
  | clWrite (r : BitVec 1) (c : BitVec 1)
deriving DecidableEq, Repr

/-- One bus frame as it stands on the wire after the device-address byte (30 rule R95): the bytes sent to the chip,
then, after a repeated start, how many bytes the chip sends back. A byte receive sends none. -/
structure Frame where
  sent : List Byte
  recv : Nat
deriving DecidableEq, Repr

/-- The operand fields of HOST_CMD, each on its own parallel field of the port (30 rule R91); a command looks only at
the fields 30 rule R92 gives it. -/
structure HostOperands where
  sweep  : SweepSpec
  range  : RangeSettings
  buffer : Handle
  dest   : Handle
deriving DecidableEq, Repr

/-- All operand fields zero. -/
def HostOperands.zero : HostOperands :=
  { sweep := { start := 0, increment := 0, increments := 0, settle := 0, mult := .x1, averages := 0 }
    range := { pga := 0, vr := 0, atten := 0, rfb := 0 }
    buffer := 0
    dest := 0 }

/-- A word presented to the block, by the port it stands on. HOST_CMD and TICK_REQ are ports of 10 rule R49; the last
three are the MODEL's port of the block's own sequencer, on which one operation of the formats XPORT, CTRLHI, CTRLLO
stands in its encoding (DESIGN CHOICE, log 3: the host cannot issue these, 40 rule R120). -/
inductive PortWord
  | hostCmd (code : BitVec 4) (ops : HostOperands)
  | tickReq
  | xport (frames : List Frame)
  | ctrlHi (b : Byte)
  | ctrlLo (b : Byte)
deriving DecidableEq, Repr

/-- Why a presented word stands for no operation. -/
inductive DecodeError
  /-- A host command code 0x8 to 0xF (30 rule R104): not a failure of the machine, which answers it. -/
  | reservedCommand (code : BitVec 4)
  /-- Frames that are no transport operation of 40 rule R120 (40 rule R133). -/
  | notATransportOperation
  /-- A frame whose first byte is the command byte of another frame kind than its place asks for (30 rule R107). -/
  | wrongCommandByte
  /-- A block frame whose count byte differs from its length (30 rule R95). -/
  | wrongByteCount
  /-- A function code that is none of the seven (30 rule R105). -/
  | unknownFunctionCode (fc : BitVec 4)
  /-- A bit that 30 rule R106 says is always written zero stands at one. -/
  | unusedBitSet
deriving DecidableEq, Repr

end Sys2Proof
end

