-- ==== Sys2Proof/Machine/State.lean ====
section
/-! DEFINITION. The state of the machine: the block's private registers (10 rules R20 to R30), what its operations change
outside the block, the environment's inputs, and the model's record of what happened (20 rule R78). -/

namespace Sys2Proof.Machine

/-- `STATUS`: the eight states the source names (10 rule R21). Reserved codes have no value here (30 rule R108, log 17). -/
inductive Status
  | uninit | idle | measureImpedance | finishImpedance | measureTemp | finishTemp | calibrate | finishCalib
deriving DecidableEq, Repr

/-- The result codes on the port (30 rule R94). -/
inductive ResultCode
  | ok | busy | error
deriving DecidableEq, Repr

/-- The cause labels of 60 rule R241, visible in the history and not on the port; `calibrationNotModelled` is its label
NotModelled (log 16). -/
inductive Cause
  | none | busy | notInitialised | invalidArgument | transportFailure | reservedCommand | calibrationNotModelled
deriving DecidableEq, Repr

/-- What a command returned on its port (30 rule R92), or the transport verdict and value of a presented transport
operation (40 rule R120): `verdict` for the writes, `byte` and `word` for the reads, `none` there being FAIL. -/
inductive Reply
  | nothing
  | status (s : Status)
  | flag (busy : Bool)
  | count (n : U16)
  | code (r : ResultCode)
  | verdict (ok : Bool)
  | byte (v : Option Byte)
  | word (v : Option U16)
deriving DecidableEq, Repr

/-- Who issued an event: the host command or TICK (20 rule R78); `sequencer` for an operation presented on the model's
own port (log 3). -/
inductive Issuer
  | none | init | reset | isBusy | measureImpedance | getSweepCount | measureTemperature | calibrate | tick
  | reservedCommand
  | sequencer
deriving DecidableEq, Repr

/-- The frame kinds of 30 rule R95. -/
inductive FrameKind
  | pointerSet | byteWrite | blockWrite | blockRead | byteReceive
deriving DecidableEq, Repr

/-- One ImpedanceSample record: `re`, `im` are s16 (20 rule R69). -/
structure Sample where
  freq : U32
  re   : U16
  im   : U16
deriving DecidableEq, Repr

/-- What happened: one bus frame (kind, device address, the register address it concerns, bytes sent, bytes received,
verdict; of a failed frame, what log 28 says), one clock-generator request, one buffer or temperature write (20 rule R78), or the end of a start operation
with its result and cause label (60 rule R241). -/
inductive EventKind
  | frame (kind : FrameKind) (dev : BitVec 7) (addr : Byte) (sent received : List Byte) (ok : Bool)
  | cgStop
  | cgSetPsc (p : U16)
  | cgStart
  | bufWrite (ref : Handle) (index : U16) (rec : Sample)
  | tempWrite (ref : Handle) (t : U16)
  | ended (r : ResultCode) (cause : Cause)
deriving DecidableEq, Repr

/-- An event with the command that issued it. -/
structure Event where
  issuer : Issuer
  what   : EventKind
deriving DecidableEq, Repr

/-- A store of cells by address: pairs with strictly rising addresses (`Memory.wf`); an unlisted address reads as
nothing. With bytes this is a list of `Host.Cell`. -/
abbrev Memory (α : Type) := List (Nat × α)

/-- The block-private registers (10 rules R21 to R29), under their names in the spec. -/
structure Regs where
  /-- `STATUS` -/
  status : Status
  /-- `WAIT_ACTIVE` -/
  waitActive : Bool
  /-- `WAIT_START` -/
  waitStart : U32
  /-- `TICKCNT` -/
  tickCnt : U32
  /-- `SW_START` -/
  swStart : U32
  /-- `SW_INC` -/
  swInc : U32
  /-- `SW_NINC` -/
  swNinc : U16
  /-- `SW_SETTLE` -/
  swSettle : U16
  /-- `SW_MULT` -/
  swMult : SettleMult
  /-- `SW_AVG` -/
  swAvg : U16
  /-- `RG_PGA` -/
  rgPga : BitVec 1
  /-- `RG_VR` -/
  rgVr : BitVec 2
  /-- `RG_ATTEN` -/
  rgAtten : U32
  /-- `RG_RFB` -/
  rgRfb : U32
  /-- `BUF_REF` -/
  bufRef : Handle
  /-- `TEMP_REF` -/
  tempRef : Handle
  /-- `POINT` -/
  point : U16
  /-- `FREQ_CUR` -/
  freqCur : U32
  /-- `SUMR`, s32 -/
  sumR : U32
  /-- `SUMI`, s32 -/
  sumI : U32
  /-- `AVGCNT` -/
  avgCnt : U16
  /-- `CLKSEL` -/
  clkSel : ClkIdx
  /-- `CG_RUN` -/
  cgRun : Bool
  /-- `CG_PSC` -/
  cgPsc : U16
deriving DecidableEq, Repr

/-- The chip behind the bus: the bytes its register space has received (20 rules R62, R65; an unlisted address has
received nothing), and its address pointer `PTR` (10 rule R51). What a READ returns is not taken from here: it is the
chip's answer (20 rule R66, log 10). -/
structure Chip where
  received : Memory Byte
  ptr : Byte
deriving DecidableEq, Repr

/-- The external clock generator: its run state and prescaler (10 rule R52 (c)). -/
structure ClockGen where
  running : Bool
  psc : U16
deriving DecidableEq, Repr

/-- The machine. `cfg` holds the parameters of 00 rule R5: no operation writes it (log 4). -/
structure State where
  cfg : Config
  /-- the block's private registers -/
  regs : Regs
  /-- the chip: register space and pointer -/
  chip : Chip
  /-- the clock generator -/
  gen : ClockGen
  /-- the callers' sample buffers, by handle and point number (20 rule R69, log 11) -/
  buf : Memory Sample
  /-- the callers' temperature cells, s16 by handle (20 rule R70) -/
  temp : Memory U16
  /-- environment: what is asked of the block, in the order it is served (log 1, log 2) -/
  requests : List PortWord
  /-- environment: the chip's answers to the coming frames (log 5) -/
  answers : List Answer
  /-- how many answers have been drawn: the index of the free value (log 5) -/
  draws : Nat
  /-- what the last command returned (log 18) -/
  reply : Reply
  /-- the command whose events are recorded (log 18) -/
  issuer : Issuer
  /-- the event history, oldest first (20 rule R78, log 18) -/
  history : List Event
deriving DecidableEq, Repr

/-- The points where the source gives the block no defined behaviour (60 rule R243). -/
inductive Fault
  /-- Raised by TICK when a point is complete and `POINT > SW_NINC`: the record would fall outside the caller's array (43
  rule R208). Safe: the model stops where the hardware is undefined. -/
  | bufferOverrun
  /-- Raised by PROGRAM_SWEEP when SELCLK gives NONE (42 rule R176). Safe. -/
  | noClockForFrequency
  /-- Raised by PROGRAM_SWEEP when a frequency code does not fit 24 bits (42 rule R176). Safe. -/
  | frequencyNotRepresentable
deriving DecidableEq, Repr

/-- No meaning for what was asked. -/
inductive Refusal
  /-- Raised by an arm of `exec` whose instruction has no meaning yet; none has at present. Safe. -/
  | notModelled (mnemonic : String)
  /-- Raised by TICK in the state Calibrate, which no other state leads to: the engine is out of scope and 43 rule R203
  refuses the tick (43 rule R199, log 16). Safe. -/
  | calibrationEngineOutOfScope
  /-- Raised by the step when the presented word stands for no operation (40 rule R133, 30 rules R105, R106, log 19).
  Safe. -/
  | undecodable (e : DecodeError)
deriving DecidableEq, Repr

/-- The private registers after hardware reset (10 rule R30). The registers R30 leaves unspecified (`WAIT_START`, `SW_*`,
`RG_ATTEN`, `RG_RFB`, `BUF_REF`, `TEMP_REF`, `FREQ_CUR`) are zero: DESIGN CHOICE, log 8, unsafe. -/
def Regs.atReset (c : Config) : Regs :=
  { status := .uninit, waitActive := false, waitStart := 0, tickCnt := 0
    swStart := 0, swInc := 0, swNinc := 0, swSettle := 0, swMult := .x1, swAvg := 0
    rgPga := 0, rgVr := 0, rgAtten := 0, rgRfb := 0, bufRef := 0, tempRef := 0
    point := 0, freqCur := 0, sumR := 0, sumI := 0, avgCnt := 0
    clkSel := c.intIdx, cgRun := false, cgPsc := 0 }

/-- The machine right after hardware reset with the parameters `c`. What stands outside the block is not reset by it (70
rule R271): nothing received, pointer and generator at zero are DESIGN CHOICE, log 9, unsafe. Hardware reset is here only the
state a run starts from: no step asserts the reset input in a running machine, which 70 rule R270 leaves open (DESIGN CHOICE,
log 29, unsafe). -/
def State.atReset (c : Config) : State :=
  { cfg := c
    regs := Regs.atReset c
    chip := { received := [], ptr := 0 }
    gen := { running := false, psc := 0 }
    buf := [], temp := []
    requests := [], answers := [], draws := 0
    reply := .nothing, issuer := .none, history := [] }

/-- The machine right after reset, under the suggested parameters (log 4). -/
def State.reset : State := State.atReset Config.suggested

end Sys2Proof.Machine
end

