-- ==== Sys2Proof/Machine/Flags.lean ====
section
/-! DEFINITION. Every flag and code the spec computes: the busy predicate, the chip's status bits, the codes of STATUS and
of the results, the wait comparison. -/

namespace Sys2Proof.Machine

/-- The encoding of `STATUS` (10 rule R21). -/
def statusCode (s : Status) : BitVec 4 :=
  match s with
  | .uninit => 0
  | .idle => 1
  | .measureImpedance => 2
  | .finishImpedance => 3
  | .measureTemp => 4
  | .finishTemp => 5
  | .calibrate => 6
  | .finishCalib => 7

/-- The state a 4-bit code names; 8 to 15 are reserved (30 rule R108). -/
def statusOfCode (c : BitVec 4) : Option Status :=
  match c.toNat with
  | 0 => some .uninit
  | 1 => some .idle
  | 2 => some .measureImpedance
  | 3 => some .finishImpedance
  | 4 => some .measureTemp
  | 5 => some .finishTemp
  | 6 => some .calibrate
  | 7 => some .finishCalib
  | _ => none

/-- The encoding of the result codes (30 rule R94); 3 is never returned. -/
def resultCode (r : ResultCode) : BitVec 2 :=
  match r with
  | .ok => 0
  | .busy => 1
  | .error => 2

/-- The result a cause label comes out as on the port (60 rule R241). -/
def resultOf (c : Cause) : ResultCode :=
  match c with
  | .none => .ok
  | .busy => .busy
  | .notInitialised => .error
  | .invalidArgument => .error
  | .transportFailure => .error
  | .reservedCommand => .error
  | .calibrationNotModelled => .error

/-- ISBUSY (43 rule R193): the busy states are MeasureImpedance, MeasureTemp, Calibrate. -/
def isBusyStatus (s : Status) : Bool :=
  match s with
  | .measureImpedance => true
  | .measureTemp => true
  | .calibrate => true
  | .uninit => false
  | .idle => false
  | .finishImpedance => false
  | .finishTemp => false
  | .finishCalib => false

/-- `temp_valid = s[0]` (30 rule R102). -/
def tempValid (s : Byte) : Bool := s.getLsbD 0

/-- `data_valid = s[1]` (30 rule R102). -/
def dataValid (s : Byte) : Bool := s.getLsbD 1

/-- `sweep_done = s[2]` (30 rule R102). -/
def sweepDone (s : Byte) : Bool := s.getLsbD 2

/-- `(TICKCNT - WAIT_START) mod 2^32 > WAIT_TICKS` (43 rule R204). -/
def waitElapsed (c : Config) (r : Regs) : Bool := decide (c.waitTicks < (r.tickCnt - r.waitStart).toNat)

/-- The port STATUS_OUT (10 rule R49 (3)): readable at any time without a command. -/
def statusOut (s : State) : BitVec 4 := statusCode s.regs.status

end Sys2Proof.Machine
end

