-- ==== Sys2Proof/WellFormed.lean ====
section
/-! DEFINITION. Which operations have an encoding of their own. Every width is in the types of `Instr`; what is left is
30 rule R107: a byte-write frame begins with the register address, so that address may be no command byte. -/

namespace Sys2Proof

/-- `a` is none of the three command bytes, so a frame that begins with it is a byte write (30 rule R107). -/
abbrev directAddress (c : Config) (a : Byte) : Prop :=
  a ≠ c.cmdSetPointer ∧ a ≠ c.cmdBlockWrite ∧ a ≠ c.cmdBlockRead

/-- An operation that the encodings of 30 can carry. Only WRITE8 has a check (00 rule R6 (i), 30 rule R107). -/
def Instr.Wf (c : Config) : Instr → Prop
  | .write8 a _ => directAddress c a
  | .init => True
  | .reset => True
  | .isBusy => True
  | .measureImpedance _ _ _ => True
  | .getSweepCount => True
  | .measureTemperature _ => True
  | .calibrate => True
  | .tick => True
  | .setAddr _ => True
  | .write16 _ _ => True
  | .write24 _ _ => True
  | .read8 _ => True
  | .read16 _ => True
  | .ccInit _ _ => True
  | .ccStart _ _ => True
  | .ccIncr _ _ => True
  | .ccRepeat _ _ => True
  | .ccMtemp _ _ => True
  | .ccPdown _ _ => True
  | .ccStandby _ _ => True
  | .clWrite _ _ => True

end Sys2Proof
end

