-- ==== Sys2Proof/Decode.lean ====
section
/-! DEFINITION. The decoder (port word to operation, total, rejecting by name), then the encoder (30 rules R91 to R98), then
the reading of an opcode-table word. Both depend on the parameters, since the encodings do (30 rule R99, "params"). -/

namespace Sys2Proof

/-! ### The two control bytes (30 rules R97, R98) -/

/-- CTRLHI: `FC` in bits 7:4, `VR` at `VR_HI`:`VR_LO`, `PGA` at `PGA_BIT`, the remaining bit zero (30 rule R97). -/
def ctrlHiByte (c : Config) (fc : BitVec 4) (vr : BitVec 2) (pga : BitVec 1) : Byte :=
  (fc.setWidth 8 <<< 4) ||| (vr.setWidth 8 <<< c.vrLo.val) ||| (pga.setWidth 8 <<< c.pgaBit.val)

/-- CTRLLO: `RST` at `RST_BIT`, `CLKSRC` at `CLK_BIT`, all other bits zero (30 rule R98). -/
def ctrlLoByte (c : Config) (r : BitVec 1) (k : BitVec 1) : Byte :=
  (r.setWidth 8 <<< c.rstBit.val) ||| (k.setWidth 8 <<< c.clkBit.val)

/-! ### Bytes of a value, most significant first (20 rule R60) -/

/-- `v[15:8]`, `v[7:0]`. -/
def bytes16 (v : U16) : List Byte := [v.extractLsb' 8 8, v.extractLsb' 0 8]

/-- `v[23:16]`, `v[15:8]`, `v[7:0]`. -/
def bytes24 (v : U24) : List Byte := [v.extractLsb' 16 8, v.extractLsb' 8 8, v.extractLsb' 0 8]

/-! ### Decoding -/

/-- HOST format: the codes of 30 rule R92; 0x8 to 0xF are reserved (30 rule R104). -/
def decodeHost (code : BitVec 4) (ops : HostOperands) : Except DecodeError Instr :=
  match code.toNat with
  | 0 => .ok .init
  | 1 => .ok .reset
  | 2 => .ok .isBusy
  | 3 => .ok (.measureImpedance ops.sweep ops.range ops.buffer)
  | 4 => .ok .getSweepCount
  | 5 => .ok (.measureTemperature ops.dest)
  | 6 => .ok .calibrate
  | 7 => .ok .tick
  | _ => .error (.reservedCommand code)

/-- The data frame of a two-phase operation at address `a` (30 rule R96), told apart as 30 rule R107 says. -/
def decodeDataFrame (c : Config) (a : Byte) (f : Frame) : Except DecodeError Instr :=
  match f.sent, f.recv with
  | [], 1 => .ok (.read8 a)
  | [x, n], 2 =>
    if x ≠ c.cmdBlockRead then .error .wrongCommandByte
    else if n ≠ 2#8 then .error .wrongByteCount
    else .ok (.read16 a)
  | [x, n, h, l], 0 =>
    if x ≠ c.cmdBlockWrite then .error .wrongCommandByte
    else if n ≠ 2#8 then .error .wrongByteCount
    else .ok (.write16 a (h ++ l))
  | [x, n, h, m, l], 0 =>
    if x ≠ c.cmdBlockWrite then .error .wrongCommandByte
    else if n ≠ 3#8 then .error .wrongByteCount
    else .ok (.write24 a (h ++ m ++ l))
  | _, _ => .error .notATransportOperation

/-- XPORT format: one frame or two (30 rule R96); nothing else is a transport operation (40 rule R133). -/
def decodeXport (c : Config) (frames : List Frame) : Except DecodeError Instr :=
  match frames with
  | [⟨[x, y], 0⟩] =>
    if x = c.cmdSetPointer then .ok (.setAddr y)
    else if x = c.cmdBlockWrite ∨ x = c.cmdBlockRead then .error .wrongCommandByte
    else .ok (.write8 x y)
  | [⟨[x, a], 0⟩, f] => if x = c.cmdSetPointer then decodeDataFrame c a f else .error .wrongCommandByte
  | _ => .error .notATransportOperation

/-- CTRLHI format: the function code names the operation; the unused bit must be zero (30 rules R97, R105, R106). -/
def decodeCtrlHi (c : Config) (b : Byte) : Except DecodeError Instr :=
  let fc : BitVec 4 := b.extractLsb' 4 4
  let vr : BitVec 2 := b.extractLsb' c.vrLo.val 2
  let pga : BitVec 1 := b.extractLsb' c.pgaBit.val 1
  if ctrlHiByte c fc vr pga ≠ b then .error .unusedBitSet
  else if fc = c.fcInit then .ok (.ccInit vr pga)
  else if fc = c.fcStart then .ok (.ccStart vr pga)
  else if fc = c.fcIncr then .ok (.ccIncr vr pga)
  else if fc = c.fcRepeat then .ok (.ccRepeat vr pga)
  else if fc = c.fcMtemp then .ok (.ccMtemp vr pga)
  else if fc = c.fcPdown then .ok (.ccPdown vr pga)
  else if fc = c.fcStandby then .ok (.ccStandby vr pga)
  else .error (.unknownFunctionCode fc)

/-- CTRLLO format: the six unused bits must be zero (30 rules R98, R106). -/
def decodeCtrlLo (c : Config) (b : Byte) : Except DecodeError Instr :=
  let r : BitVec 1 := b.extractLsb' c.rstBit.val 1
  let k : BitVec 1 := b.extractLsb' c.clkBit.val 1
  if ctrlLoByte c r k ≠ b then .error .unusedBitSet else .ok (.clWrite r k)

/-- The operation a presented word stands for. -/
def decode (c : Config) (w : PortWord) : Except DecodeError Instr :=
  match w with
  | .hostCmd code ops => decodeHost code ops
  | .tickReq => .ok .tick
  | .xport frames => decodeXport c frames
  | .ctrlHi b => decodeCtrlHi c b
  | .ctrlLo b => decodeCtrlLo c b

/-! ### Encoding -/

/-- The pointer-set frame (30 rule R95). -/
def pointerFrame (c : Config) (a : Byte) : Frame := ⟨[c.cmdSetPointer, a], 0⟩

/-- The word of an operation, from the tables of 30 rules R92, R96, R97, R98. TICK stands on TICK_REQ (30 rule R92). -/
def encode (c : Config) (i : Instr) : PortWord :=
  match i with
  | .init => .hostCmd 0 HostOperands.zero
  | .reset => .hostCmd 1 HostOperands.zero
  | .isBusy => .hostCmd 2 HostOperands.zero
  | .measureImpedance sweep range buffer => .hostCmd 3 { HostOperands.zero with sweep, range, buffer }
  | .getSweepCount => .hostCmd 4 HostOperands.zero
  | .measureTemperature dest => .hostCmd 5 { HostOperands.zero with dest }
  | .calibrate => .hostCmd 6 HostOperands.zero
  | .tick => .tickReq
  | .setAddr a => .xport [pointerFrame c a]
  | .write8 a v => .xport [⟨[a, v], 0⟩]
  | .write16 a v => .xport [pointerFrame c a, ⟨c.cmdBlockWrite :: 2#8 :: bytes16 v, 0⟩]
  | .write24 a v => .xport [pointerFrame c a, ⟨c.cmdBlockWrite :: 3#8 :: bytes24 v, 0⟩]
  | .read8 a => .xport [pointerFrame c a, ⟨[], 1⟩]
  | .read16 a => .xport [pointerFrame c a, ⟨[c.cmdBlockRead, 2#8], 2⟩]
  | .ccInit vr pga => .ctrlHi (ctrlHiByte c c.fcInit vr pga)
  | .ccStart vr pga => .ctrlHi (ctrlHiByte c c.fcStart vr pga)
  | .ccIncr vr pga => .ctrlHi (ctrlHiByte c c.fcIncr vr pga)
  | .ccRepeat vr pga => .ctrlHi (ctrlHiByte c c.fcRepeat vr pga)
  | .ccMtemp vr pga => .ctrlHi (ctrlHiByte c c.fcMtemp vr pga)
  | .ccPdown vr pga => .ctrlHi (ctrlHiByte c c.fcPdown vr pga)
  | .ccStandby vr pga => .ctrlHi (ctrlHiByte c c.fcStandby vr pga)
  | .clWrite r k => .ctrlLo (ctrlLoByte c r k)

/-! ### The words of spec/opcode_table.json (log 13) -/

/-- Byte `i` of `w`, counted from the least significant. -/
def tableByteAt (w i : Nat) : Byte := BitVec.ofNat 8 (w / 2 ^ (8 * i))

/-- Does a byte decode? -/
def decodes (r : Except DecodeError Instr) : Bool :=
  match r with
  | .ok _ => true
  | .error _ => false

/-- A word of four bits: HOST is the only format of that width (30 rules R92, R99), so it is a HOST code, a reserved one from
0x8 on. -/
def tableHostCode (w : Nat) : PortWord :=
  if w = 7 then .tickReq else .hostCmd (BitVec.ofNat 4 w) HostOperands.zero

/-- A word of one whole byte, which does not name its format: a HOST code below 8, else a CTRLHI byte, else a CTRLLO byte, else
a reserved HOST code. DESIGN CHOICE, log 13: three formats share these bytes, so that 0x00 and 0x10 each stand for two rows, and
0x08, which no HOST row has, is read as the CTRLLO byte 0x08 (CL_WRITE) and not as the reserved HOST code. -/
def tableOneByte (w : Nat) : PortWord :=
  let b := tableByteAt w 0
  if w < 8 then tableHostCode w
  else if decodes (decodeCtrlHi Config.suggested b) then .ctrlHi b
  else if decodes (decodeCtrlLo Config.suggested b) then .ctrlLo b
  else if w < 16 then tableHostCode w
  else .ctrlHi b

/-- The port word of a row of `nbits` bits: the pattern is one number whose most significant byte goes on the wire first,
cut into frames as 30 rule R96 shows; what a word of one byte stands for is the model's choice (log 13). -/
def tableWord (nbits w : Nat) : PortWord :=
  match nbits with
  | 4 => tableHostCode w
  | 8 => tableOneByte w
  | 16 => .xport [⟨[tableByteAt w 1, tableByteAt w 0], 0⟩]
  | 32 => .xport [⟨[tableByteAt w 3, tableByteAt w 2], 0⟩, ⟨[tableByteAt w 1, tableByteAt w 0], 2⟩]
  | 48 => .xport [⟨[tableByteAt w 5, tableByteAt w 4], 0⟩,
      ⟨[tableByteAt w 3, tableByteAt w 2, tableByteAt w 1, tableByteAt w 0], 0⟩]
  | 56 => .xport [⟨[tableByteAt w 6, tableByteAt w 5], 0⟩,
      ⟨[tableByteAt w 4, tableByteAt w 3, tableByteAt w 2, tableByteAt w 1, tableByteAt w 0], 0⟩]
  | _ => .xport []

/-- The operation the decoder reads from an opcode-table word, under the suggested constants the table uses. -/
def decodeTableWord (nbits w : Nat) : Option Instr :=
  match decode Config.suggested (tableWord nbits w) with
  | .ok i => some i
  | .error _ => none

end Sys2Proof
end

