-- ==== Sys2Proof/Machine/Operands.lean ====
section
/-! DEFINITION. The data formats and operand forms: the values the block writes into the chip's registers and what it reads
out of them (30 rules R100 to R103), and the arithmetic of 00 rule R7. -/

namespace Sys2Proof.Machine

/-- `sval` of a 16-bit value (00 rule R7): a DATA16 sample (30 rule R103). -/
def sval16 (d : U16) : Int := d.toInt

/-- `tdiv(a, b)`: division truncated toward zero (00 rule R7). -/
def tdiv (a b : Int) : Int := a.tdiv b

/-- NINC16: `zext_16(n[8:0])` (30 rule R101). -/
def ninc16 (n : U16) : U16 := (n.extractLsb' 0 9).setWidth 16

/-- `MULT_CODE[m]` (00 rule R5). -/
def multCode (c : Config) (m : SettleMult) : BitVec 2 :=
  match m with
  | .x1 => c.multX1
  | .x2 => c.multX2
  | .x4 => c.multX4

/-- SETTLE16: `(MULT_CODE[m] << 9) | s` (30 rule R101, 10 rule R46). -/
def settle16 (c : Config) (m : SettleMult) (s : U16) : U16 := ((multCode c m).setWidth 16 <<< 9) ||| s

/-- The clock-source bit of CTRLLO for source `k` (42 rule R167). -/
def clkSourceBit (c : Config) (k : ClkIdx) : BitVec 1 := if c.isExternal k then c.clkExtValue else 1 - c.clkExtValue

/-- DECODE_TEMP: `sval(t[13:0])` as an s16, bits 15:14 ignored (44 rule R233). -/
def decodeTemp (t : U16) : U16 := (t.extractLsb' 0 14).signExtend 16

/-- A running sum (s32) plus one sample (s16), 43 rule R207. -/
def addSample (sum : U32) (d : U16) : U32 := sum + BitVec.ofInt 32 (sval16 d)

/-- The mean of a sum over a count, truncated toward zero, as s16 (43 rule R208). -/
def mean (sum : U32) (count : U16) : U16 := BitVec.ofInt 16 (tdiv sum.toInt count.toNat)

/-- The address of record `i` of the buffer `ref` in the callers' memory: handle and point number side by side (log 11). -/
def bufAddress (ref : Handle) (i : U16) : Nat := (ref ++ i).toNat

/-- The address of the temperature cell `ref` (log 11). -/
def tempAddress (ref : Handle) : Nat := ref.toNat

/-- The operand copies that MEASURE_IMPEDANCE takes (43 rule R197, 30 rule R93). -/
def captureOperands (sw : SweepSpec) (rg : RangeSettings) (buffer : Handle) (r : Regs) : Regs :=
  { r with
    swStart := sw.start, swInc := sw.increment, swNinc := sw.increments
    swSettle := sw.settle, swMult := sw.mult, swAvg := sw.averages
    rgPga := rg.pga, rgVr := rg.vr, rgAtten := rg.atten, rgRfb := rg.rfb
    bufRef := buffer }

end Sys2Proof.Machine
end

