-- ==== Sys2Proof/Machine/Ops.lean ====
section
/-! DEFINITION. The shared operations: memory, the named updates of the state, the chip's answers, the bus frames, the
clock-generator requests, the two writes to the callers' memory, and the end of a start operation. -/

namespace Sys2Proof.Machine

/-! ### Memory: lists of cells in canonical form (log 10) -/

/-- What stands at an address: nothing, if the address is not listed. -/
def Memory.read {α : Type} (m : Memory α) (a : Nat) : Option α :=
  match m with
  | [] => none
  | c :: rest => if c.1 = a then some c.2 else Memory.read rest a

/-- Write one cell, keeping the addresses strictly rising. -/
def Memory.write {α : Type} (m : Memory α) (a : Nat) (v : α) : Memory α :=
  match m with
  | [] => [(a, v)]
  | c :: rest =>
    if a < c.1 then (a, v) :: c :: rest
    else if a = c.1 then (a, v) :: rest
    else c :: Memory.write rest a v

/-- The canonical form: addresses strictly rising. (An unlisted address reads as nothing, which no entry can equal.) -/
abbrev Memory.wf {α : Type} (m : Memory α) : Prop := m.Pairwise (fun p q => p.1 < q.1)

/-! ### Named updates of the state -/

/-- Replace the private registers. -/
def setRegs (r : Regs) (s : State) : State := { s with regs := r }

/-- Replace the chip. -/
def setChip (c : Chip) (s : State) : State := { s with chip := c }

/-- Replace the clock generator. -/
def setGen (g : ClockGen) (s : State) : State := { s with gen := g }

/-- Deliver a reply on the port. -/
def setReply (r : Reply) (s : State) : State := { s with reply := r }

/-- Begin a command: its events are tagged with it (20 rule R78). -/
def issueAs (i : Issuer) (s : State) : State := { s with issuer := i }

/-- Record an event of the current command (20 rule R78). -/
def emit (e : EventKind) (s : State) : State := { s with history := s.history ++ [⟨s.issuer, e⟩] }

/-- Replace `STATUS`. -/
def setStatus (v : Status) (s : State) : State := setRegs { s.regs with status := v } s

/-- Return the current value of `STATUS` (10 rule R21). -/
def returnStatus (s : State) : State := setReply (.status s.regs.status) s

/-! ### The chip's answers (20 rule R66, log 5) -/

/-- The chip's answer to the next frame: the list's first, else the free value. -/
def nextAnswer (s : State) : Answer :=
  match s.answers with
  | [] => Config.freeAnswer s.draws
  | a :: _ => a

/-- The state after an answer has been drawn. -/
def drawn (s : State) : State := { s with answers := s.answers.tail, draws := s.draws + 1 }

/-- The answer that the `k`-th coming frame will draw. -/
def upcoming (s : State) (k : Nat) : Answer := s.answers.getD k (Config.freeAnswer (s.draws + k))

/-! ### The chip's register space and pointer (20 rule R62) -/

/-- Set the pointer. -/
def setPtr (a : Byte) (c : Chip) : Chip := { c with ptr := a }

/-- The chip receives a byte for an address; the pointer is left alone. -/
def receiveAt (a : Byte) (v : Byte) (c : Chip) : Chip := { c with received := Memory.write c.received a.toNat v }

/-- The chip receives bytes at the pointer, which advances by one for each (20 rule R62, log 24). -/
def receiveBlock (bs : List Byte) (c : Chip) : Chip :=
  match bs with
  | [] => c
  | b :: rest => receiveBlock rest (setPtr (c.ptr + 1) (receiveAt c.ptr b c))

/-- What the chip has received for an address. -/
def chipByte (s : State) (a : Byte) : Option Byte := Memory.read s.chip.received a.toNat

/-! ### The five frames (30 rule R95). Each draws one answer, and records one event; a failed frame has the first
`taken` of its byte effects (20 rule R79). What the event of a failed frame holds is left open: it records all the bytes of
the frame the block issued and no byte received, whatever `taken` says (DESIGN CHOICE, log 28). -/

/-- Record a frame with the device address it starts with. -/
def emitFrame (kind : FrameKind) (addr : Byte) (sent received : List Byte) (ok : Bool) (s : State) : State :=
  emit (.frame kind s.cfg.busDevAddr addr sent received ok) s

/-- The pointer-set frame (40 rule R124): on FAIL the pointer is unchanged or `a`. -/
def framePointerSet (a : Byte) (s : State) : Bool × State :=
  let ans := nextAnswer s
  let chip := if ans.ok || decide (0 < ans.taken) then setPtr a s.chip else s.chip
  (ans.ok, emitFrame .pointerSet a [s.cfg.cmdSetPointer, a] [] ans.ok (setChip chip (drawn s)))

/-- The byte-write frame (40 rules R121, R129): on FAIL the chip has taken the byte or not; the pointer afterwards is open
(log 7). -/
def frameByteWrite (a v : Byte) (s : State) : Bool × State :=
  let ans := nextAnswer s
  let chip := if ans.ok || decide (0 < ans.taken) then receiveAt a v s.chip else s.chip
  (ans.ok, emitFrame .byteWrite a [a, v] [] ans.ok (setChip (setPtr ans.ptr chip) (drawn s)))

/-- The block-write frame of the bytes `bs` for register `a` (40 rules R125, R126): on FAIL the chip has received a prefix
(20 rule R79, log 6), and the event still holds the whole frame (DESIGN CHOICE, log 28). -/
def frameBlockWrite (a : Byte) (bs : List Byte) (s : State) : Bool × State :=
  let ans := nextAnswer s
  let chip := receiveBlock (if ans.ok then bs else bs.take ans.taken) s.chip
  (ans.ok, emitFrame .blockWrite a (s.cfg.cmdBlockWrite :: BitVec.ofNat 8 bs.length :: bs) [] ans.ok
    (setChip chip (drawn s)))

/-- The byte-receive frame (40 rule R127): no value on FAIL, and no byte in the event (log 28); the pointer afterwards is open (log 7). -/
def frameByteReceive (a : Byte) (s : State) : Option Byte × State :=
  let ans := nextAnswer s
  (if ans.ok then some ans.b0 else none,
    emitFrame .byteReceive a [] (if ans.ok then [ans.b0] else []) ans.ok (setChip (setPtr ans.ptr s.chip) (drawn s)))

/-- The block-read frame of two bytes, the high byte first (40 rule R128): no value on FAIL, and the pointer has advanced
over a prefix (20 rule R79, log 6), while the event holds the whole request and no byte received (DESIGN CHOICE, log 28). -/
def frameBlockRead (a : Byte) (s : State) : Option U16 × State :=
  let ans := nextAnswer s
  let moved := if ans.ok then 2 else min ans.taken 2
  (if ans.ok then some (ans.b0 ++ ans.b1) else none,
    emitFrame .blockRead a [s.cfg.cmdBlockRead, 2#8] (if ans.ok then [ans.b0, ans.b1] else []) ans.ok
      (setChip (setPtr (s.chip.ptr + BitVec.ofNat 8 moved) s.chip) (drawn s)))

/-! ### Sequences that stop at the first FAIL -/

/-- Go on with `f` after OK; after FAIL nothing further is sent (40 rule R123, 42 rule R175). -/
def andThen (f : State → Bool × State) (r : Bool × State) : Bool × State :=
  if r.1 then f r.2 else r

/-- Go on with a read after OK; no value after FAIL (40 rule R123). -/
def andThenRead {α : Type} (f : State → Option α × State) (r : Bool × State) : Option α × State :=
  if r.1 then f r.2 else (none, r.2)

/-! ### The six transport operations (40 rule R120) -/

/-- SETADDR (40 rule R124). -/
def setAddr (a : Byte) (s : State) : Bool × State := framePointerSet a s

/-- WRITE8 (40 rule R129). -/
def write8 (a v : Byte) (s : State) : Bool × State := frameByteWrite a v s

/-- WRITE16 (40 rule R125). -/
def write16 (a : Byte) (v : U16) (s : State) : Bool × State := andThen (frameBlockWrite a (bytes16 v)) (setAddr a s)

/-- WRITE24 (40 rule R126). -/
def write24 (a : Byte) (v : U24) (s : State) : Bool × State := andThen (frameBlockWrite a (bytes24 v)) (setAddr a s)

/-- READ8 (40 rule R127). -/
def read8 (a : Byte) (s : State) : Option Byte × State := andThenRead (frameByteReceive a) (setAddr a s)

/-- READ16 (40 rule R128). -/
def read16 (a : Byte) (s : State) : Option U16 × State := andThenRead (frameBlockRead a) (setAddr a s)

/-! ### The clock-generator requests (42 rule R162): each completes at once and cannot fail -/

/-- CG_STOP. -/
def cgStop (s : State) : State := emit .cgStop (setGen { s.gen with running := false } s)

/-- CG_SETPSC(p). -/
def cgSetPsc (p : U16) (s : State) : State := emit (.cgSetPsc p) (setGen { s.gen with psc := p } s)

/-- CG_START. -/
def cgStart (s : State) : State := emit .cgStart (setGen { s.gen with running := true } s)

/-! ### The callers' memory (port SAMPLE_OUT): neither write can fail -/

/-- `BUF[i] <- rec` in the buffer `ref` (20 rule R69). -/
def writeSample (ref : Handle) (i : U16) (rec : Sample) (s : State) : State :=
  emit (.bufWrite ref i rec) { s with buf := Memory.write s.buf (bufAddress ref i) rec }

/-- `TEMP <- t` in the cell `ref` (20 rule R70). -/
def writeTemp (ref : Handle) (t : U16) (s : State) : State :=
  emit (.tempWrite ref t) { s with temp := Memory.write s.temp (tempAddress ref) t }

/-- Record number `i` of the buffer `ref`. -/
def sampleAt (s : State) (ref : Handle) (i : U16) : Option Sample := Memory.read s.buf (bufAddress ref i)

/-- The temperature cell `ref`. -/
def tempAt (s : State) (ref : Handle) : Option U16 := Memory.read s.temp (tempAddress ref)

/-! ### The exceptional outcomes (60 rules R240, R241, R248). There is no trap: nothing is saved, no mode changes, control
goes nowhere, and so there is no return from one. What stands in their place is this one operation. -/

/-- End a command with a cause label: its result code on the port, the label in the history. -/
def endStart (cause : Cause) (s : State) : State :=
  setReply (.code (resultOf cause)) (emit (.ended (resultOf cause) cause) s)

end Sys2Proof.Machine
end

