-- ==== Sys2Proof/Machine/Codec.lean ====
section
/-! DEFINITION. The frequency codec (41): exact arithmetic over the naturals (41 rule R151). -/

namespace Sys2Proof.Machine

/-- FREQ2REG(f, c) = floor(2^29 f / c) (41 rule R150); 536870912 is 2^29. -/
def freq2reg (f c : Nat) : Nat := 536870912 * f / c

/-- FITS24(f, c): the code fits the 24-bit register (41 rule R152); 16777216 is 2^24. -/
def fits24 (f c : Nat) : Bool := decide (freq2reg f c < 16777216)

/-- REG2FREQ(code, c) = floor((code c + 2^28) / 2^29) (41 rule R153). No operation calls it. -/
def reg2freq (code c : Nat) : Nat := (code * c + 268435456) / 536870912

/-- The FREQ24 value of a frequency or an increment under the clock rate `c` (30 rule R100); used where FITS24 holds. -/
def freqCode (f c : U32) : U24 := BitVec.ofNat 24 (freq2reg f.toNat c.toNat)

end Sys2Proof.Machine
end

