-- ==== Sys2Proof/Machine/Transport.lean ====
section
/-! DEFINITION. The meanings of the XPORT rows (40): one transport operation, its verdict or value as the reply. -/

namespace Sys2Proof.Machine

/-- Deliver the verdict of a presented operation. -/
def replyVerdict (r : Bool × State) : Host.Outcome State Fault Refusal := .next (setReply (.verdict r.1) r.2)

/-- SETADDR (40 rule R124). -/
def execSetAddr (a : Byte) (s : State) : Host.Outcome State Fault Refusal :=
  replyVerdict (setAddr a (issueAs .sequencer s))

/-- WRITE8 (40 rule R129). -/
def execWrite8 (a v : Byte) (s : State) : Host.Outcome State Fault Refusal :=
  replyVerdict (write8 a v (issueAs .sequencer s))

/-- WRITE16 (40 rule R125). -/
def execWrite16 (a : Byte) (v : U16) (s : State) : Host.Outcome State Fault Refusal :=
  replyVerdict (write16 a v (issueAs .sequencer s))

/-- WRITE24 (40 rule R126). -/
def execWrite24 (a : Byte) (v : U24) (s : State) : Host.Outcome State Fault Refusal :=
  replyVerdict (write24 a v (issueAs .sequencer s))

/-- READ8 (40 rule R127). -/
def execRead8 (a : Byte) (s : State) : Host.Outcome State Fault Refusal :=
  let r := read8 a (issueAs .sequencer s)
  .next (setReply (.byte r.1) r.2)

/-- READ16 (40 rule R128). -/
def execRead16 (a : Byte) (s : State) : Host.Outcome State Fault Refusal :=
  let r := read16 a (issueAs .sequencer s)
  .next (setReply (.word r.1) r.2)

end Sys2Proof.Machine
end

