-- ==== Sys2Proof/Machine/Control.lean ====
section
/-! DEFINITION. The control-register writes (42 rules R165 to R174, R178) and the meanings of the CTRLHI and CTRLLO rows. -/

namespace Sys2Proof.Machine

/-- A control-byte command CC_x: WRITE8 of the function code and the captured range selectors (42 rule R165). -/
def ccWrite (fc : BitVec 4) (s : State) : Bool × State :=
  write8 s.cfg.aCtrlHi (ctrlHiByte s.cfg fc s.regs.rgVr s.regs.rgPga) s

/-- CL_WRITE(r): the reset bit and the clock-source bit of `CLKSEL` (42 rule R167). -/
def clWrite (r : BitVec 1) (s : State) : Bool × State :=
  write8 s.cfg.aCtrlLo (ctrlLoByte s.cfg r (clkSourceBit s.cfg s.regs.clkSel)) s

/-! The fields `vr`, `pga` of a CTRLHI word and `c` of a CTRLLO word are the copies the block makes of its registers; 42
rule R165 gives the command no operand and takes them from `RG_VR`, `RG_PGA`, and 42 rule R167 takes `c` from `CLKSEL`.
So do the meanings (DESIGN CHOICE for a word with other bits, log 12). -/

/-- CC_INIT (42 rule R166). -/
def execCcInit (_vr : BitVec 2) (_pga : BitVec 1) (s : State) : Host.Outcome State Fault Refusal :=
  replyVerdict (ccWrite s.cfg.fcInit (issueAs .sequencer s))

/-- CC_START (42 rule R169). -/
def execCcStart (_vr : BitVec 2) (_pga : BitVec 1) (s : State) : Host.Outcome State Fault Refusal :=
  replyVerdict (ccWrite s.cfg.fcStart (issueAs .sequencer s))

/-- CC_INCR (42 rule R170). -/
def execCcIncr (_vr : BitVec 2) (_pga : BitVec 1) (s : State) : Host.Outcome State Fault Refusal :=
  replyVerdict (ccWrite s.cfg.fcIncr (issueAs .sequencer s))

/-- CC_REPEAT (42 rule R171). -/
def execCcRepeat (_vr : BitVec 2) (_pga : BitVec 1) (s : State) : Host.Outcome State Fault Refusal :=
  replyVerdict (ccWrite s.cfg.fcRepeat (issueAs .sequencer s))

/-- CC_MTEMP (42 rule R178). -/
def execCcMtemp (_vr : BitVec 2) (_pga : BitVec 1) (s : State) : Host.Outcome State Fault Refusal :=
  replyVerdict (ccWrite s.cfg.fcMtemp (issueAs .sequencer s))

/-- CC_PDOWN (42 rule R172): no operation of the block issues it, log 25. -/
def execCcPdown (_vr : BitVec 2) (_pga : BitVec 1) (s : State) : Host.Outcome State Fault Refusal :=
  replyVerdict (ccWrite s.cfg.fcPdown (issueAs .sequencer s))

/-- CC_STANDBY (42 rule R174). -/
def execCcStandby (_vr : BitVec 2) (_pga : BitVec 1) (s : State) : Host.Outcome State Fault Refusal :=
  replyVerdict (ccWrite s.cfg.fcStandby (issueAs .sequencer s))

/-- CL_WRITE(r) (42 rule R167). -/
def execClWrite (r _c : BitVec 1) (s : State) : Host.Outcome State Fault Refusal :=
  replyVerdict (clWrite r (issueAs .sequencer s))

end Sys2Proof.Machine
end

