-- ==== Sys2Proof/Machine/Sequencer.lean ====
section
/-! DEFINITION. The clock selector and the configuration sequencer (42): SELCLK, RANGECHK, SETCLK, CHIP_RESET,
PROGRAM_SWEEP. -/

namespace Sys2Proof.Machine

/-- SELCLK(f): the band of a frequency; `none` is NONE (42 rule R161). -/
def selClk (c : Config) (f : U32) : Option ClkIdx :=
  if f < c.clkThr.k0 then none
  else if f < c.clkThr.k1 then some 0
  else if f < c.clkThr.k2 then some 1
  else if f < c.clkThr.k3 then some 2
  else some 3

/-- `CLK_RATE[k]` as a natural number of hertz. -/
def rateOf (c : Config) (k : ClkIdx) : Nat := (c.clkRate.get k).toNat

/-- RANGECHK(f): some band contains it and its code fits under that band's clock (42 rule R168). -/
def rangeChk (c : Config) (f : U32) : Bool :=
  match selClk c f with
  | none => false
  | some k => fits24 f.toNat (rateOf c k)

/-- The first step of SETCLK: stop the generator's output if it runs (42 rule R163). -/
def stopIfRunning (s : State) : State :=
  if s.regs.cgRun then
    let s1 := cgStop s
    setRegs { s1.regs with cgRun := false } s1
  else s

/-- The second step of SETCLK for an external source: set the prescaler, then start the output (42 rule R163). -/
def startExternal (k : ClkIdx) (s : State) : State :=
  if s.cfg.isExternal k then
    let p := s.cfg.clkPsc.get k
    let s1 := cgSetPsc p s
    let s2 := cgStart (setRegs { s1.regs with cgPsc := p } s1)
    setRegs { s2.regs with cgRun := true } s2
  else s

/-- The third step of SETCLK: `CLKSEL <- k` (42 rule R163). -/
def selectClock (k : ClkIdx) (s : State) : State := setRegs { s.regs with clkSel := k } s

/-- SETCLK(k) (42 rule R163): executed in full even when `k = CLKSEL`. -/
def setClk (k : ClkIdx) (s : State) : Bool × State :=
  clWrite 0 (selectClock k (startExternal k (stopIfRunning s)))

/-- CHIP_RESET (42 rule R173): three writes, all issued whatever their verdicts. -/
def chipReset (s : State) : State :=
  (clWrite 0 (clWrite 1 (ccWrite s.cfg.fcStandby s).2).2).2

/-- Arming the wait: `WAIT_START <- TICKCNT`, `WAIT_ACTIVE <- 1` (42 rule R177). -/
def armWait (s : State) : State := setRegs { s.regs with waitStart := s.regs.tickCnt, waitActive := true } s

/-- The bus operations of PROGRAM_SWEEP(f, n) under clock `k`, in their order, stopping at the first FAIL; the wait is
armed only after the last (42 rule R175). -/
def programSteps (k : ClkIdx) (f : U32) (n : U16) (s : State) : Bool × State :=
  let c := s.cfg
  let rate := c.clkRate.get k
  let r := ccWrite c.fcStandby s
  let r := andThen (setClk k) r
  let r := andThen (write24 c.aFreqStart (freqCode f rate)) r
  let r := andThen (write24 c.aFreqInc (freqCode s.regs.swInc rate)) r
  let r := andThen (write16 c.aNumInc (ninc16 n)) r
  let r := andThen (write16 c.aSettle (settle16 c s.regs.swMult s.regs.swSettle)) r
  let r := andThen (ccWrite c.fcInit) r
  andThen (fun t => (true, armWait t)) r

/-- PROGRAM_SWEEP(f, n): the two guards, before any frame, then the steps (42 rules R175, R176). -/
def programSweep (f : U32) (n : U16) (s : State) : Except Fault (Bool × State) :=
  match selClk s.cfg f with
  | none => .error .noClockForFrequency
  | some k =>
    if fits24 f.toNat (rateOf s.cfg k) && fits24 s.regs.swInc.toNat (rateOf s.cfg k) then .ok (programSteps k f n s)
    else .error .frequencyNotRepresentable

end Sys2Proof.Machine
end

