-- ==== Sys2Proof/Machine/HostCommands.lean ====
section
/-! DEFINITION. The host commands of the sweep control (43): INIT, RESET, ISBUSY, GET_SWEEP_COUNT, MEASURE_IMPEDANCE,
CALIBRATE, and the reserved codes. -/

namespace Sys2Proof.Machine

/-- Every private register with a reset value takes that value; the others keep theirs (43 rule R191, 70 rule R272). -/
def initRegs (c : Config) (r : Regs) : Regs :=
  { r with
    status := .uninit, waitActive := false, tickCnt := 0
    point := 0, avgCnt := 0, sumR := 0, sumI := 0, rgPga := 0, rgVr := 0
    clkSel := c.intIdx, cgRun := false, cgPsc := 0 }

/-- INIT (43 rule R191): the reset values, CG_STOP whatever `CG_RUN` was, CHIP_RESET, `STATUS <- Idle`. -/
def execInit (s : State) : Host.Outcome State Fault Refusal :=
  let s0 := issueAs .init s
  let s1 := chipReset (cgStop (setRegs (initRegs s0.cfg s0.regs) s0))
  .next (setReply .nothing (setStatus .idle s1))

/-- Clear the wait and the accumulators (43 rule R192). -/
def clearSweep (r : Regs) : Regs := { r with waitActive := false, sumR := 0, sumI := 0, avgCnt := 0 }

/-- RESET (43 rule R192): CHIP_RESET, clear, `STATUS <- Idle`, return it. -/
def execReset (s : State) : Host.Outcome State Fault Refusal :=
  let s1 := chipReset (issueAs .reset s)
  .next (returnStatus (setStatus .idle (setRegs (clearSweep s1.regs) s1)))

/-- ISBUSY (43 rule R193). -/
def execIsBusy (s : State) : Host.Outcome State Fault Refusal :=
  .next (setReply (.flag (isBusyStatus s.regs.status)) (issueAs .isBusy s))

/-- GET_SWEEP_COUNT (43 rule R194). -/
def execGetSweepCount (s : State) : Host.Outcome State Fault Refusal :=
  .next (setReply (.count s.regs.point) (issueAs .getSweepCount s))

/-- Checks V3 to V10 of 43 rule R196 on the sweep operand (V5 and V7 together are RANGECHK of the start). -/
def sweepArgumentsOk (c : Config) (sw : SweepSpec) : Bool :=
  match selClk c sw.start with
  | none => false                                                                                        -- V5
  | some k =>
    decide (sw.increment ≠ 0) &&                                                                         -- V3
    decide (sw.increments.toNat ≤ 511) &&                                                                -- V4
    decide (sw.start.toNat + sw.increment.toNat * sw.increments.toNat < 4294967296) &&                   -- V6
    fits24 sw.start.toNat (rateOf c k) &&                                                                -- V7
    fits24 sw.increment.toNat (rateOf c k) &&                                                            -- V8
    decide (sw.settle.toNat ≤ 511) &&                                                                    -- V9
    decide (1 ≤ sw.averages.toNat)                                                                       -- V10

/-- The validation of MEASURE_IMPEDANCE (43 rule R196): the cause of the first check that fails. V1, then V2, then the
arguments (60 rule R246). -/
def validateSweep (s : State) (sw : SweepSpec) : Cause :=
  if s.regs.status = .uninit then .notInitialised
  else if isBusyStatus s.regs.status then .busy
  else if sweepArgumentsOk s.cfg sw then .none
  else .invalidArgument

/-- The last part of a successful MEASURE_IMPEDANCE (43 rule R197). -/
def beginSweep (r : Regs) : Regs :=
  { r with point := 0, freqCur := r.swStart, sumR := 0, sumI := 0, avgCnt := 0, status := .measureImpedance }

/-- MEASURE_IMPEDANCE, execution after validation (43 rule R197) and transport failure (43 rule R198). PROGRAM_SWEEP's
faults cannot arise here (42 rule R176). -/
def startSweep (sw : SweepSpec) (rg : RangeSettings) (buffer : Handle) (s : State) :
    Host.Outcome State Fault Refusal :=
  match programSweep sw.start sw.increments (setRegs (captureOperands sw rg buffer s.regs) s) with
  | .error f => .fault f
  | .ok (false, s1) => .next (endStart .transportFailure s1)
  | .ok (true, s1) => .next (endStart .none (setRegs (beginSweep s1.regs) s1))

/-- MEASURE_IMPEDANCE (43 rule R195). -/
def execMeasureImpedance (sw : SweepSpec) (rg : RangeSettings) (buffer : Handle) (s : State) :
    Host.Outcome State Fault Refusal :=
  let s0 := issueAs .measureImpedance s
  match validateSweep s0 sw with
  | .none => startSweep sw rg buffer s0
  | cause => .next (endStart cause s0)

/-- CALIBRATE in every state (43 rules R190, R199): the engine is out of scope, so the command is rejected with the result Error
and the label NotModelled, "no state change, no frame" (93 U5; 30 rule R92, 60 rule R240; log 16). -/
def execCalibrate (s : State) : Host.Outcome State Fault Refusal :=
  .next (endStart .calibrationNotModelled (issueAs .calibrate s))

/-- A host command code 0x8 to 0xF (43 rule R200, 30 rule R104): Error, no register written, no frame sent. -/
def answerReserved (s : State) : State := endStart .reservedCommand (issueAs .reservedCommand s)

end Sys2Proof.Machine
end

