-- ==== Sys2Proof/Machine/Temperature.lean ====
section
/-! DEFINITION. The temperature path (44): MEASURE_TEMPERATURE and the branch of TICK in the state MeasureTemp. -/

namespace Sys2Proof.Machine

/-- MEASURE_TEMPERATURE (44 rule R231). -/
def execMeasureTemperature (dest : Handle) (s : State) : Host.Outcome State Fault Refusal :=
  let s0 := issueAs .measureTemperature s
  if s0.regs.status = .uninit then .next (endStart .notInitialised s0)
  else if isBusyStatus s0.regs.status then .next (endStart .busy s0)
  else
    let r := ccWrite s0.cfg.fcMtemp (setRegs { s0.regs with tempRef := dest } s0)
    .next (if r.1 then endStart .none (setStatus .measureTemp r.2) else endStart .transportFailure r.2)

/-- Poll the status byte and, when it shows a valid temperature, read the temperature register: nothing when a read
fails or the bit is not set (44 rule R232). -/
def pollTemp (s : State) : Option U16 × State :=
  match read8 s.cfg.aStatus s with
  | (none, s1) => (none, s1)
  | (some st, s1) => if tempValid st then read16 s1.cfg.aTemp s1 else (none, s1)

/-- Deliver a temperature: one write to the caller's cell, then FinishTemp (44 rule R232). -/
def deliverTemp (t : U16) (s : State) : State := setStatus .finishTemp (writeTemp s.regs.tempRef (decodeTemp t) s)

/-- TICK in MeasureTemp, after counting (44 rule R232). -/
def tickTemp (s : State) : State :=
  match pollTemp s with
  | (none, s1) => s1
  | (some t, s1) => deliverTemp t s1

end Sys2Proof.Machine
end

