-- ==== Sys2Proof/Machine/Tick.lean ====
section
/-! DEFINITION. TICK (43 rules R201 to R211): counting, the capacitor-charge wait, the sample accumulator, the mean and the
store, the advance, the next step. -/

namespace Sys2Proof.Machine

/-- `TICKCNT <- (TICKCNT + 1) mod 2^32`, first of all, in every state (43 rule R202). -/
def countTick (s : State) : State := setRegs { s.regs with tickCnt := s.regs.tickCnt + 1 } s

/-- Step (a), the wait: once it has elapsed, CC_START with its verdict ignored, and `WAIT_ACTIVE <- 0` (43 rule R204). -/
def tickWait (s : State) : State :=
  if waitElapsed s.cfg s.regs then
    let s1 := (ccWrite s.cfg.fcStart s).2
    setRegs { s1.regs with waitActive := false } s1
  else s

/-- Steps (b) and (c), first half: the status byte, and when it shows valid data the real, then the imaginary sample;
nothing when the bit is not set or a read fails (43 rules R205, R206, R211). -/
def pollSample (s : State) : Option (Byte × U16 × U16) × State :=
  match read8 s.cfg.aStatus s with
  | (none, s1) => (none, s1)
  | (some st, s1) =>
    if dataValid st then
      match read16 s1.cfg.aReal s1 with
      | (none, s2) => (none, s2)
      | (some re, s2) =>
        match read16 s2.cfg.aImag s2 with
        | (none, s3) => (none, s3)
        | (some im, s3) => (some (st, re, im), s3)
    else (none, s1)

/-- Step (c), second half: the sums and the count (43 rule R207). -/
def accumulate (re im : U16) (r : Regs) : Regs :=
  { r with sumR := addSample r.sumR re, sumI := addSample r.sumI im, avgCnt := r.avgCnt + 1 }

/-- The record of the point that is complete: the frequency in hertz and the truncated means (43 rule R208). -/
def pointRecord (r : Regs) : Sample :=
  { freq := r.freqCur, re := mean r.sumR r.avgCnt, im := mean r.sumI r.avgCnt }

/-- Step (d), second part: advance the point and the frequency, clear the accumulators (43 rule R209). -/
def advancePoint (r : Regs) : Regs :=
  { r with point := r.point + 1, freqCur := r.freqCur + r.swInc, sumR := 0, sumI := 0, avgCnt := 0 }

/-- The increments still to make after the point at `FREQ_CUR` (42 rule R179). -/
def incrementsLeft (r : Regs) : U16 := if r.point ≤ r.swNinc then r.swNinc - r.point else 0

/-- Step (d), third part, with the status byte of this tick: finish, or change the clock (PROGRAM_SWEEP's verdict ignored,
its faults kept), or CC_INCR with its verdict ignored (43 rules R210, R211). -/
def nextPoint (st : Byte) (s : State) : Except Fault State :=
  if sweepDone st then .ok (setStatus .finishImpedance s)
  else if selClk s.cfg s.regs.freqCur ≠ some s.regs.clkSel then
    match programSweep s.regs.freqCur (incrementsLeft s.regs) s with
    | .error f => .error f
    | .ok r => .ok r.2
  else .ok (ccWrite s.cfg.fcIncr s).2

/-- Step (d): the guard of the caller's array, the store, the advance, the next step (43 rules R208 to R210). -/
def finishPoint (st : Byte) (s : State) : Except Fault State :=
  if s.regs.swNinc < s.regs.point then .error .bufferOverrun
  else
    let s1 := writeSample s.regs.bufRef s.regs.point (pointRecord s.regs) s
    nextPoint st (setRegs (advancePoint s1.regs) s1)

/-- Step (c), second half, and step (d): a sample has been read (43 rule R207). -/
def takeSample (st : Byte) (re im : U16) (s : State) : Except Fault State :=
  let s1 := setRegs (accumulate re im s.regs) s
  if s1.regs.avgCnt < s1.regs.swAvg then .ok (ccWrite s1.cfg.fcRepeat s1).2
  else finishPoint st s1

/-- TICK in MeasureImpedance with `WAIT_ACTIVE = 0` (43 rules R205 to R210). -/
def tickPoll (s : State) : Except Fault State :=
  match pollSample s with
  | (none, s1) => .ok s1
  | (some (st, re, im), s1) => takeSample st re im s1

/-- Return from TICK with the value of STATUS after it (43 rule R201). -/
def endTick (r : Except Fault State) : Host.Outcome State Fault Refusal :=
  match r with
  | .ok s => .next (returnStatus s)
  | .error f => .fault f

/-- TICK (43 rule R201): count, then what 43 rule R203 selects. -/
def execTick (s : State) : Host.Outcome State Fault Refusal :=
  let s0 := countTick (issueAs .tick s)
  match s0.regs.status with
  | .uninit => endTick (.ok s0)
  | .idle => endTick (.ok s0)
  | .finishImpedance => endTick (.ok s0)
  | .finishTemp => endTick (.ok s0)
  | .finishCalib => endTick (.ok s0)
  | .measureImpedance => endTick (if s0.regs.waitActive then .ok (tickWait s0) else tickPoll s0)
  | .measureTemp => endTick (.ok (tickTemp s0))
  | .calibrate => .refused .calibrationEngineOutOfScope

end Sys2Proof.Machine
end

