-- ==== Sys2Proof/Machine/Dispatch.lean ====
section
/-! DEFINITION. The meaning of each operation, one arm per constructor. -/

namespace Sys2Proof.Machine

def exec (i : Instr) (s : State) : Host.Outcome State Fault Refusal :=
  match i with
  -- HOST
  | .init => Sys2Proof.Machine.execInit s
  | .reset => Sys2Proof.Machine.execReset s
  | .isBusy => Sys2Proof.Machine.execIsBusy s
  | .measureImpedance sweep range buffer => Sys2Proof.Machine.execMeasureImpedance sweep range buffer s
  | .getSweepCount => Sys2Proof.Machine.execGetSweepCount s
  | .measureTemperature dest => Sys2Proof.Machine.execMeasureTemperature dest s
  | .calibrate => Sys2Proof.Machine.execCalibrate s
  | .tick => Sys2Proof.Machine.execTick s
  -- XPORT
  | .setAddr a => Sys2Proof.Machine.execSetAddr a s
  | .write8 a v => Sys2Proof.Machine.execWrite8 a v s
  | .write16 a v => Sys2Proof.Machine.execWrite16 a v s
  | .write24 a v => Sys2Proof.Machine.execWrite24 a v s
  | .read8 a => Sys2Proof.Machine.execRead8 a s
  | .read16 a => Sys2Proof.Machine.execRead16 a s
  -- CTRLHI
  | .ccInit vr pga => Sys2Proof.Machine.execCcInit vr pga s
  | .ccStart vr pga => Sys2Proof.Machine.execCcStart vr pga s
  | .ccIncr vr pga => Sys2Proof.Machine.execCcIncr vr pga s
  | .ccRepeat vr pga => Sys2Proof.Machine.execCcRepeat vr pga s
  | .ccMtemp vr pga => Sys2Proof.Machine.execCcMtemp vr pga s
  | .ccPdown vr pga => Sys2Proof.Machine.execCcPdown vr pga s
  | .ccStandby vr pga => Sys2Proof.Machine.execCcStandby vr pga s
  -- CTRLLO
  | .clWrite r c => Sys2Proof.Machine.execClWrite r c s

end Sys2Proof.Machine
end

