-- ==== Sys2Proof/Machine/Fetch.lean ====
section
/-! DEFINITION. How a presented word is taken from the ports, and how an opcode-table word is presented. The block fetches
no instructions (10 rule R22, 20 rule R76): what stands for a fetch is the acceptance of the next request (log 1). -/

namespace Sys2Proof.Machine

/-- The next request, and the state with it taken off its port. -/
def acceptRequest (s : State) : Option (PortWord × State) :=
  match s.requests with
  | [] => none
  | w :: rest => some (w, { s with requests := rest })

/-- A word that stands for no operation: a reserved host command code is answered (43 rule R200), any other is refused (40
rule R133, log 19). -/
def rejectWord (e : DecodeError) (s : State) : Host.Outcome State Fault Refusal :=
  match e with
  | .reservedCommand _ => .next (answerReserved s)
  | .notATransportOperation => .refused (.undecodable .notATransportOperation)
  | .wrongCommandByte => .refused (.undecodable .wrongCommandByte)
  | .wrongByteCount => .refused (.undecodable .wrongByteCount)
  | .unknownFunctionCode fc => .refused (.undecodable (.unknownFunctionCode fc))
  | .unusedBitSet => .refused (.undecodable .unusedBitSet)

/-- Present a word as the next request. -/
def present (w : PortWord) (s : State) : State := { s with requests := w :: s.requests }

end Sys2Proof.Machine
end

