-- ==== Sys2Proof/Machine/Step.lean ====
section
/-! DEFINITION. One step: the block accepts the next request and runs it to its end (60 rule R252); with none it stays as it
is, since it "acts only on a command or a TICK" (60 rule R257). -/

namespace Sys2Proof.Machine

/-- One step of the machine. -/
def step (s : State) : Host.Outcome State Fault Refusal :=
  match acceptRequest s with
  | none => .next s
  | some (w, t) =>
    match decode t.cfg w with
    | .ok i => exec i t
    | .error e => rejectWord e t

/-- `s` with the operation of an opcode-table word presented as the next request (log 1, log 13). -/
def State.withFetchWord (s : State) (nbits w : Nat) : State := present (tableWord nbits w) s

end Sys2Proof.Machine
end

