-- ==== Sys2Proof/Safety.lean ====
section
/-! DEFINITION. What counts as a safe run, and the invariant of the machine. -/

namespace Sys2Proof.Machine

/-- The next step raises no fault (60 rule R243): it goes on, or what was asked is refused. -/
def StepsSafely (s : State) : Prop := ∀ f, step s ≠ .fault f

/-- Every memory is in canonical form, and its addresses are addresses of its space: 8 bits for the chip (20 rule R62), handle
and point number for the buffers, handle for the cells (log 11). -/
def MemoryInv (s : State) : Prop :=
  Memory.wf s.chip.received ∧ (∀ c ∈ s.chip.received, c.1 < 2 ^ 8) ∧
  Memory.wf s.buf ∧ (∀ c ∈ s.buf, c.1 < 2 ^ 48) ∧
  Memory.wf s.temp ∧ (∀ c ∈ s.temp, c.1 < 2 ^ 32)

/-- The control state `(STATUS, WAIT_ACTIVE)`: the two states of the engine out of scope are never reached (43 rule R199),
and the wait runs only in MeasureImpedance (44 rule R231). -/
def ControlInv (r : Regs) : Prop :=
  r.status ≠ .calibrate ∧ r.status ≠ .finishCalib ∧ (r.waitActive = true → r.status = .measureImpedance)

/-- The clock shadows agree with each other and with the generator (10 rule R29, 42 rule R163): the generator was left
running exactly when the selected source is external, and then it runs with the prescaler last sent. -/
def ClockInv (s : State) : Prop :=
  s.regs.cgRun = s.cfg.isExternal s.regs.clkSel ∧
  (s.regs.cgRun = true → s.gen.running = true ∧ s.gen.psc = s.regs.cgPsc)

/-- The frequency in hertz of point `i` of the captured sweep (00 rule R11). -/
def pointFreq (r : Regs) (i : Nat) : Nat := r.swStart.toNat + i * r.swInc.toNat

/-- While a sweep runs: the captured operands are those the validation let through (43 rule R196); the point and the frequency
agree (10 rule R27); the accumulators are inside their bounds (10 rule R28); the increment has a code under the selected
clock, which is at most the band of the frequency (42 rule R176). -/
structure SweepInv (c : Config) (r : Regs) : Prop where
  increment_pos : 0 < r.swInc.toNat
  increments_le : r.swNinc.toNat ≤ 511
  settle_le : r.swSettle.toNat ≤ 511
  averages_pos : 1 ≤ r.swAvg.toNat
  no_wrap : pointFreq r r.swNinc.toNat < 2 ^ 32
  point_le : r.point.toNat ≤ r.swNinc.toNat + 1
  freq_eq : r.freqCur.toNat = pointFreq r r.point.toNat % 2 ^ 32
  count_lt : r.avgCnt.toNat < r.swAvg.toNat
  sumR_bound : -32768 * (r.avgCnt.toNat : Int) ≤ r.sumR.toInt ∧ r.sumR.toInt ≤ 32767 * (r.avgCnt.toNat : Int)
  sumI_bound : -32768 * (r.avgCnt.toNat : Int) ≤ r.sumI.toInt ∧ r.sumI.toInt ≤ 32767 * (r.avgCnt.toNat : Int)
  increment_fits : fits24 r.swInc.toNat (rateOf c r.clkSel) = true
  band_le : r.point.toNat ≤ r.swNinc.toNat → ∃ k, selClk c r.freqCur = some k ∧ r.clkSel ≤ k

/-- Every point counted so far stands in the caller's buffer with its own frequency (43 rule R212). -/
def RecordsInv (s : State) : Prop :=
  ∀ i : U16, i < s.regs.point →
    ∃ rec, sampleAt s s.regs.bufRef i = some rec ∧ rec.freq.toNat = pointFreq s.regs i.toNat

/-- The invariant of the machine. -/
structure Inv (s : State) : Prop where
  config : s.cfg.Wf
  memory : MemoryInv s
  control : ControlInv s.regs
  clock : ClockInv s
  sweep : s.regs.status = .measureImpedance → SweepInv s.cfg s.regs
  records : s.regs.status = .measureImpedance → RecordsInv s

end Sys2Proof.Machine
end

