-- ==== Sys2Proof/Certificates/Slice0/Obligations.lean ====
section
/-! DEFINITION. The statements for the provers, and the words they are written in. -/

namespace Sys2Proof.Claims

open Sys2Proof.Machine

/-! ### What the chip will answer -/

/-- The verdict of the `j`-th coming frame (20 rule R66). -/
def verdict (s : State) (j : Nat) : Bool := (upcoming s j).ok

/-- The two bytes of the `j`-th coming answer, the first one high (40 rule R128). -/
def wordAnswer (s : State) (j : Nat) : U16 := (upcoming s j).b0 ++ (upcoming s j).b1

/-! ### What happened -/

/-- From `s` to `t` exactly the events `es` were recorded, issued by `i` (20 rule R78). -/
def Recorded (i : Issuer) (es : List EventKind) (s t : State) : Prop := t.history = s.history ++ es.map (Event.mk i)

/-- From `s` to `t` exactly `n` answers were drawn, one for each frame (the model's oracle, log 5). -/
def Drew (n : Nat) (s t : State) : Prop := t.answers = s.answers.drop n ∧ t.draws = s.draws + n

/-- A frame to or from the chip of `s`. With `ok = false`, the frame as the block issued it and nothing received: the model's
choice of what a failed frame records (log 28). -/
def frameOf (s : State) (k : FrameKind) (a : Byte) (sent received : List Byte) (ok : Bool) : EventKind :=
  .frame k s.cfg.busDevAddr a sent received ok

/-- A pointer-set frame (30 rule R95). -/
def pointerSetOf (s : State) (a : Byte) (ok : Bool) : EventKind :=
  frameOf s .pointerSet a [s.cfg.cmdSetPointer, a] [] ok

/-- A byte-write frame (30 rule R95). -/
def byteWriteOf (s : State) (a v : Byte) (ok : Bool) : EventKind := frameOf s .byteWrite a [a, v] [] ok

/-- A block-write frame of two bytes (30 rule R96). -/
def blockWrite16Of (s : State) (a : Byte) (v : U16) (ok : Bool) : EventKind :=
  frameOf s .blockWrite a [s.cfg.cmdBlockWrite, 2#8, v.extractLsb' 8 8, v.extractLsb' 0 8] [] ok

/-- A block-write frame of three bytes (30 rule R96). -/
def blockWrite24Of (s : State) (a : Byte) (v : U24) (ok : Bool) : EventKind :=
  frameOf s .blockWrite a
    [s.cfg.cmdBlockWrite, 3#8, v.extractLsb' 16 8, v.extractLsb' 8 8, v.extractLsb' 0 8] [] ok

/-- A byte-receive frame (30 rule R95). -/
def byteReceiveOf (s : State) (a : Byte) (received : List Byte) (ok : Bool) : EventKind :=
  frameOf s .byteReceive a [] received ok

/-- A block-read frame of two bytes (30 rule R96). -/
def blockReadOf (s : State) (a : Byte) (received : List Byte) (ok : Bool) : EventKind :=
  frameOf s .blockRead a [s.cfg.cmdBlockRead, 2#8] received ok

/-- A control-byte command with the selectors of `s` (42 rule R165). -/
def controlOf (s : State) (fc : BitVec 4) (ok : Bool) : EventKind :=
  byteWriteOf s s.cfg.aCtrlHi (ctrlHiByte s.cfg fc s.regs.rgVr s.regs.rgPga) ok

/-! ### What stays -/

/-- The callers' memory reads as before, record by record and cell by cell. -/
def CallersKept (s t : State) : Prop :=
  (∀ ref i, sampleAt t ref i = sampleAt s ref i) ∧ ∀ ref, tempAt t ref = tempAt s ref

/-- The chip has received nothing new outside the addresses `P`. -/
def ChipBytesKeptOutside (P : Byte → Prop) (s t : State) : Prop := ∀ a, ¬ P a → chipByte t a = chipByte s a

/-- The parameters (log 4) and the pending requests (log 1) are as before. -/
def EnvironmentKept (s t : State) : Prop := t.cfg = s.cfg ∧ t.requests = s.requests

/-- Nothing of the block, of the generator, of the callers' memory or of the environment has changed. -/
def OnlyTheBus (s t : State) : Prop :=
  EnvironmentKept s t ∧ t.regs = s.regs ∧ t.gen = s.gen ∧ CallersKept s t

/-- Nothing at all has changed but what the command returned and recorded. -/
def NothingChanged (s t : State) : Prop :=
  OnlyTheBus s t ∧ t.chip.ptr = s.chip.ptr ∧ ChipBytesKeptOutside (fun _ => False) s t ∧ Drew 0 s t

/-- The effect of WRITE8(a, v) issued by `i` (40 rule R129): one frame; the byte is there after OK, there or not after
FAIL; no other byte. -/
def ByteWritten (i : Issuer) (a v : Byte) (s t : State) : Prop :=
  Recorded i [byteWriteOf s a v (verdict s 0)] s t ∧ Drew 1 s t ∧
  (verdict s 0 = true → chipByte t a = some v) ∧
  (verdict s 0 = false → chipByte t a = some v ∨ chipByte t a = chipByte s a) ∧
  ChipBytesKeptOutside (fun x => x = a) s t

/-! ### The plan of PROGRAM_SWEEP (42 rule R175) -/

/-- Carry out a list of planned events with the verdicts from the `j`-th on: generator requests always happen, a frame
that fails is the last. The second component says whether the plan was carried out whole. -/
def runPlan (ok : Nat → Bool) (j : Nat) (plan : List EventKind) : List EventKind × Bool :=
  match plan with
  | [] => ([], true)
  | .frame k d a sent received _ :: rest =>
    if ok j then (.frame k d a sent received true :: (runPlan ok (j + 1) rest).1, (runPlan ok (j + 1) rest).2)
    else ([.frame k d a sent received false], false)
  | e :: rest => (e :: (runPlan ok j rest).1, (runPlan ok j rest).2)

/-- The generator requests of SETCLK(k) (42 rule R163). -/
def clockRequests (s : State) (k : ClkIdx) : List EventKind :=
  (if s.regs.cgRun then [.cgStop] else []) ++
  (if s.cfg.isExternal k then [.cgSetPsc (s.cfg.clkPsc.get k), .cgStart] else [])

/-- The clock-source write of SETCLK(k). -/
def clockBitOf (s : State) (k : ClkIdx) (ok : Bool) : EventKind :=
  byteWriteOf s s.cfg.aCtrlLo (ctrlLoByte s.cfg 0 (clkSourceBit s.cfg k)) ok

/-- A two-phase write of three bytes. -/
def write24Plan (s : State) (a : Byte) (v : U24) : List EventKind := [pointerSetOf s a true, blockWrite24Of s a v true]

/-- A two-phase write of two bytes. -/
def write16Plan (s : State) (a : Byte) (v : U16) : List EventKind := [pointerSetOf s a true, blockWrite16Of s a v true]

/-- The steps of PROGRAM_SWEEP(f, n) under clock `k`, in the order of 42 rule R175. -/
def sweepPlan (s : State) (k : ClkIdx) (f : U32) (n : U16) : List EventKind :=
  [controlOf s s.cfg.fcStandby true] ++ clockRequests s k ++ [clockBitOf s k true] ++
  write24Plan s s.cfg.aFreqStart (freqCode f (s.cfg.clkRate.get k)) ++
  write24Plan s s.cfg.aFreqInc (freqCode s.regs.swInc (s.cfg.clkRate.get k)) ++
  write16Plan s s.cfg.aNumInc (ninc16 n) ++
  write16Plan s s.cfg.aSettle (settle16 s.cfg s.regs.swMult s.regs.swSettle) ++
  [controlOf s s.cfg.fcInit true]

/-- The clock shadows after SETCLK(k) (42 rule R163). -/
def clockSelected (c : Config) (k : ClkIdx) (r : Regs) : Regs :=
  { r with clkSel := k, cgRun := c.isExternal k, cgPsc := if c.isExternal k then c.clkPsc.get k else r.cgPsc }

/-- The generator after SETCLK(k). -/
def generatorAfter (s : State) (k : ClkIdx) : ClockGen :=
  { running := s.cfg.isExternal k || (s.gen.running && !s.regs.cgRun)
    psc := if s.cfg.isExternal k then s.cfg.clkPsc.get k else s.gen.psc }

/-- The addresses PROGRAM_SWEEP writes to: the six registers it programs (10 rule R40). -/
def SweepRegisterByte (c : Config) (a : Byte) : Prop :=
  a ∈ [c.aCtrlHi, c.aCtrlLo, c.aFreqStart, c.aFreqStart + 1, c.aFreqStart + 2, c.aFreqInc, c.aFreqInc + 1,
    c.aFreqInc + 2, c.aNumInc, c.aNumInc + 1, c.aSettle, c.aSettle + 1]

/-- The checks V3 to V10 of 43 rule R196 hold of a sweep operand that starts in band `k`. -/
def OperandsAdmissible (c : Config) (sw : SweepSpec) (k : ClkIdx) : Prop :=
  selClk c sw.start = some k ∧ sw.increment ≠ 0 ∧ sw.increments.toNat ≤ 511 ∧
  sw.start.toNat + sw.increment.toNat * sw.increments.toNat < 2 ^ 32 ∧
  fits24 sw.start.toNat (rateOf c k) = true ∧ fits24 sw.increment.toNat (rateOf c k) = true ∧
  sw.settle.toNat ≤ 511 ∧ 1 ≤ sw.averages.toNat

/-- Idle or a finished state (43 rule R190). -/
def Ready (s : State) : Prop := s.regs.status ≠ .uninit ∧ isBusyStatus s.regs.status = false

/-! ### One polling tick (43 rules R205 to R210) -/

/-- `TICKCNT` counted (43 rule R202). -/
def counted (r : Regs) : Regs := { r with tickCnt := r.tickCnt + 1 }

/-- The six frames of a poll and two data reads are answered OK and the status byte shows valid data. -/
def SampleAvailable (s : State) : Prop :=
  (∀ j, j < 6 → verdict s j = true) ∧ dataValid (upcoming s 1).b0 = true

/-- The six frames that read a sample. -/
def sampleFrames (s : State) : List EventKind :=
  [pointerSetOf s s.cfg.aStatus true, byteReceiveOf s s.cfg.aStatus [(upcoming s 1).b0] true,
   pointerSetOf s s.cfg.aReal true, blockReadOf s s.cfg.aReal [(upcoming s 3).b0, (upcoming s 3).b1] true,
   pointerSetOf s s.cfg.aImag true, blockReadOf s s.cfg.aImag [(upcoming s 5).b0, (upcoming s 5).b1] true]

/-- In MeasureImpedance past the wait, a sample is there to be read. -/
def Sampling (s : State) : Prop :=
  s.regs.status = .measureImpedance ∧ s.regs.waitActive = false ∧ SampleAvailable s

/-- The record of the point that the coming sample completes: its frequency and the truncated means (43 rule R208). -/
def recordOf (s : State) : Sample :=
  { freq := s.regs.freqCur
    re := mean (addSample s.regs.sumR (wordAnswer s 3)) (s.regs.avgCnt + 1)
    im := mean (addSample s.regs.sumI (wordAnswer s 5)) (s.regs.avgCnt + 1) }

/-- The coming sample completes a point inside the caller's array. -/
def CompletesPoint (s : State) : Prop :=
  Sampling s ∧ ¬ (s.regs.avgCnt + 1 < s.regs.swAvg) ∧ s.regs.point ≤ s.regs.swNinc

/-- The registers after a point has been stored (43 rule R209). -/
def advanced (r : Regs) : Regs :=
  { r with tickCnt := r.tickCnt + 1, point := r.point + 1, freqCur := r.freqCur + r.swInc, sumR := 0, sumI := 0
           avgCnt := 0 }

/-- The record stands in the caller's buffer at the point's index, and no other record or cell has changed. That the records of
other handles and the cells keep their value rests on the model's choice that different handles name disjoint storage (DESIGN
CHOICE, log 11, unsafe). -/
def PointStored (s t : State) : Prop :=
  sampleAt t s.regs.bufRef s.regs.point = some (recordOf s) ∧
  (∀ ref i, ¬ (ref = s.regs.bufRef ∧ i = s.regs.point) → sampleAt t ref i = sampleAt s ref i) ∧
  ∀ ref, tempAt t ref = tempAt s ref

/-- The events of a completed point: the reads and the buffer write. -/
def pointEvents (s : State) : List EventKind :=
  sampleFrames s ++ [.bufWrite s.regs.bufRef s.regs.point (recordOf s)]

/-- The four frames of a temperature poll are answered OK and the status byte shows a valid temperature. -/
def TempAvailable (s : State) : Prop :=
  (∀ j, j < 4 → verdict s j = true) ∧ tempValid (upcoming s 1).b0 = true

/-! ### Whole-machine words -/

/-- The tag of an operation's events (20 rule R78). -/
def issuerOf (i : Instr) : Issuer :=
  match i with
  | .init => .init
  | .reset => .reset
  | .isBusy => .isBusy
  | .measureImpedance _ _ _ => .measureImpedance
  | .getSweepCount => .getSweepCount
  | .measureTemperature _ => .measureTemperature
  | .calibrate => .calibrate
  | .tick => .tick
  | .setAddr _ => .sequencer
  | .write8 _ _ => .sequencer
  | .write16 _ _ => .sequencer
  | .write24 _ _ => .sequencer
  | .read8 _ => .sequencer
  | .read16 _ => .sequencer
  | .ccInit _ _ => .sequencer
  | .ccStart _ _ => .sequencer
  | .ccIncr _ _ => .sequencer
  | .ccRepeat _ _ => .sequencer
  | .ccMtemp _ _ => .sequencer
  | .ccPdown _ _ => .sequencer
  | .ccStandby _ _ => .sequencer
  | .clWrite _ _ => .sequencer

/-- The operations the host and the tick source can ask for (30 rule R92). -/
def IsHostOperation (i : Instr) : Prop := issuerOf i ≠ .sequencer

/-- The frames the block makes by itself: each register of 10 rule R40 with exactly its operation and width (20 rule R67),
a control byte with one of the six function codes it issues (30 rule R105). A block frame is asked for whole also where it
failed: that its event holds the whole frame is the model's choice (DESIGN CHOICE, log 28). -/
def BlockFrame (c : Config) (k : FrameKind) (a : Byte) (sent : List Byte) : Prop :=
  match k with
  | .byteWrite =>
      (a = c.aCtrlHi ∧ ∃ fc vr pga, fc ∈ [c.fcInit, c.fcStart, c.fcIncr, c.fcRepeat, c.fcMtemp, c.fcStandby] ∧
        sent = [a, ctrlHiByte c fc vr pga]) ∨
      (a = c.aCtrlLo ∧ ∃ r k, sent = [a, ctrlLoByte c r k])
  | .pointerSet => sent = [c.cmdSetPointer, a] ∧
      a ∈ [c.aFreqStart, c.aFreqInc, c.aNumInc, c.aSettle, c.aStatus, c.aTemp, c.aReal, c.aImag]
  | .blockWrite =>
      (a ∈ [c.aFreqStart, c.aFreqInc] ∧ ∃ b0 b1 b2, sent = [c.cmdBlockWrite, 3#8, b0, b1, b2]) ∨
      (a ∈ [c.aNumInc, c.aSettle] ∧ ∃ b0 b1, sent = [c.cmdBlockWrite, 2#8, b0, b1])
  | .byteReceive => sent = [] ∧ a = c.aStatus
  | .blockRead => sent = [c.cmdBlockRead, 2#8] ∧ a ∈ [c.aTemp, c.aReal, c.aImag]

/-- An event is none the block does not make: a frame is one of `BlockFrame`, to the chip. -/
def BlockMakes (c : Config) (e : EventKind) : Prop :=
  match e with
  | .frame k d a sent _ _ => d = c.busDevAddr ∧ BlockFrame c k a sent
  | .cgStop => True
  | .cgSetPsc _ => True
  | .cgStart => True
  | .bufWrite _ _ _ => True
  | .tempWrite _ _ => True
  | .ended _ _ => True

/-- The generator as the requests leave it, from a run state: `none` if a prescaler is sent while it runs. -/
def generatorRun (running : Bool) (es : List EventKind) : Option Bool :=
  match es with
  | [] => some running
  | .cgStop :: rest => generatorRun false rest
  | .cgStart :: rest => generatorRun true rest
  | .cgSetPsc _ :: rest => if running then none else generatorRun running rest
  | _ :: rest => generatorRun running rest

/-- Does a transport operation begin with this event? Each begins with one pointer set or is one byte write. -/
def beginsOperation (e : EventKind) : Bool :=
  match e with
  | .frame k _ _ _ _ _ => k == .pointerSet || k == .byteWrite
  | .cgStop => false
  | .cgSetPsc _ => false
  | .cgStart => false
  | .bufWrite _ _ _ => false
  | .tempWrite _ _ => false
  | .ended _ _ => false

/-- Is this event a clock-generator request? -/
def isRequest (e : EventKind) : Bool :=
  match e with
  | .frame _ _ _ _ _ _ => false
  | .cgStop => true
  | .cgSetPsc _ => true
  | .cgStart => true
  | .bufWrite _ _ _ => false
  | .tempWrite _ _ => false
  | .ended _ _ => false

/-- How many transport operations the events show. -/
def operationCount (es : List EventKind) : Nat := es.countP beginsOperation

/-- How many clock-generator requests the events show. -/
def requestCount (es : List EventKind) : Nat := es.countP isRequest

/-- The control state `(STATUS, WAIT_ACTIVE)` (10 rule R22). -/
def controlState (s : State) : Status × Bool := (s.regs.status, s.regs.waitActive)

/-- The registers an operation may write (the matrix of 10 rule R31): all others keep their value. -/
def WritesOnly (i : Instr) (r q : Regs) : Prop :=
  match i with
  | .init => q = { q with
      waitStart := r.waitStart, swStart := r.swStart, swInc := r.swInc, swNinc := r.swNinc, swSettle := r.swSettle
      swMult := r.swMult, swAvg := r.swAvg, rgAtten := r.rgAtten, rgRfb := r.rgRfb, bufRef := r.bufRef
      tempRef := r.tempRef, freqCur := r.freqCur }
  | .reset => q = { r with
      status := q.status, waitActive := q.waitActive, avgCnt := q.avgCnt, sumR := q.sumR, sumI := q.sumI }
  | .measureImpedance _ _ _ => q = { q with tickCnt := r.tickCnt, tempRef := r.tempRef }
  | .measureTemperature _ => q = { r with tempRef := q.tempRef, status := q.status }
  | .tick => q = { r with
      tickCnt := q.tickCnt, waitActive := q.waitActive, waitStart := q.waitStart, sumR := q.sumR, sumI := q.sumI
      avgCnt := q.avgCnt, point := q.point, freqCur := q.freqCur, clkSel := q.clkSel, cgRun := q.cgRun
      cgPsc := q.cgPsc, status := q.status }
  | .isBusy => q = r
  | .getSweepCount => q = r
  | .calibrate => q = r
  | .setAddr _ => q = r
  | .write8 _ _ => q = r
  | .write16 _ _ => q = r
  | .write24 _ _ => q = r
  | .read8 _ => q = r
  | .read16 _ => q = r
  | .ccInit _ _ => q = r
  | .ccStart _ _ => q = r
  | .ccIncr _ _ => q = r
  | .ccRepeat _ _ => q = r
  | .ccMtemp _ _ => q = r
  | .ccPdown _ _ => q = r
  | .ccStandby _ _ => q = r
  | .clWrite _ _ => q = r

/-- `s` with other values in `RG_ATTEN` and `RG_RFB`. -/
def scrambled (x y : U32) (s : State) : State := setRegs { s.regs with rgAtten := x, rgRfb := y } s

/-- Two outcomes that differ at most in `RG_ATTEN` and `RG_RFB`. -/
def SameButOpaque (o p : Host.Outcome State Fault Refusal) : Prop :=
  match o, p with
  | .next t, .next u => scrambled 0 0 t = scrambled 0 0 u
  | .fault f, .fault g => f = g
  | .refused f, .refused g => f = g
  | _, _ => False

/-- An outcome with the pending requests replaced. -/
def withRequests (rest : List PortWord) (o : Host.Outcome State Fault Refusal) : Host.Outcome State Fault Refusal :=
  match o with
  | .next t => .next { t with requests := rest }
  | .fault f => .fault f
  | .refused r => .refused r

end Sys2Proof.Claims

open Sys2Proof Sys2Proof.Machine Sys2Proof.Claims

/-! ### Encoding -/

/-- Decoding an encoded operation gives it back, for every admissible set of parameters and every operation that has an
encoding, at every value of its operands (30 rules R91 to R98). -/
def Obligations.DecodeEncodeRoundTrip : Prop :=
  ∀ (c : Config) (i : Instr), c.Wf → i.Wf c → decode c (encode c i) = .ok i

/-- A bus, control-high or control-low word that decodes is the encoding of what it decodes to: no bit of it is ignored,
and no two words of a format stand for one operation. -/
def Obligations.DecodedBusWordIsItsEncoding : Prop :=
  ∀ (c : Config) (w : PortWord) (i : Instr), (∀ code ops, w ≠ .hostCmd code ops) →
    decode c w = .ok i → encode c i = w

/-- Words written out from 30 rules R92, R96, R97, R98 and 95 section 2.1 decode to the operations they stand for. -/
def Obligations.SpecWordsDecode : Prop :=
  decode Config.suggested (.hostCmd 2 HostOperands.zero) = .ok .isBusy ∧
  decode Config.suggested (.xport [⟨[0xB0, 0x8F], 0⟩]) = .ok (.setAddr 0x8F) ∧
  decode Config.suggested (.xport [⟨[0x80, 0xB1], 0⟩]) = .ok (.write8 0x80 0xB1) ∧
  decode Config.suggested (.xport [⟨[0xB0, 0x88], 0⟩, ⟨[0xA0, 0x02, 0x00, 0x0A], 0⟩]) = .ok (.write16 0x88 0x000A) ∧
  decode Config.suggested (.xport [⟨[0xB0, 0x82], 0⟩, ⟨[0xA0, 0x03, 0x27, 0x10, 0x00], 0⟩])
    = .ok (.write24 0x82 0x271000) ∧
  decode Config.suggested (.xport [⟨[0xB0, 0x8F], 0⟩, ⟨[], 1⟩]) = .ok (.read8 0x8F) ∧
  decode Config.suggested (.xport [⟨[0xB0, 0x94], 0⟩, ⟨[0xA1, 0x02], 2⟩]) = .ok (.read16 0x94) ∧
  decode Config.suggested (.ctrlHi 0b01000101) = .ok (.ccRepeat 2 1) ∧
  decode Config.suggested (.ctrlLo 0b00011000) = .ok (.clWrite 1 1)

/-- A host command code 0x8 to 0xF is answered with Error: nothing is written, nothing is sent (43 rule R200). -/
def Obligations.ReservedCodeIsAnsweredWithError : Prop :=
  ∀ (s : State) (code : BitVec 4) (ops : HostOperands) (rest : List PortWord),
    s.requests = .hostCmd code ops :: rest → 8 ≤ code.toNat →
    ∃ t, step s = .next t ∧ t.reply = .code .error ∧ t.cfg = s.cfg ∧ t.regs = s.regs ∧ t.gen = s.gen ∧
      t.chip.ptr = s.chip.ptr ∧ ChipBytesKeptOutside (fun _ => False) s t ∧ CallersKept s t ∧ Drew 0 s t ∧
      t.requests = rest ∧ Recorded .reservedCommand [.ended .error .reservedCommand] s t

/-- The encodings of STATUS and of the result codes (10 rule R21, 30 rule R94): STATUS_OUT shows a code below 8, codes 8 to 15
name no state, and 3 is never a result. -/
def Obligations.StatusAndResultCodes : Prop :=
  (∀ v : Status, statusOfCode (statusCode v) = some v ∧ (statusCode v).toNat < 8) ∧
  (∀ c : BitVec 4, 8 ≤ c.toNat → statusOfCode c = none) ∧
  (statusCode .uninit = 0 ∧ statusCode .idle = 1 ∧ statusCode .measureImpedance = 2 ∧ statusCode .finishImpedance = 3 ∧
   statusCode .measureTemp = 4 ∧ statusCode .finishTemp = 5 ∧ statusCode .calibrate = 6 ∧
   statusCode .finishCalib = 7) ∧
  (∀ s : State, statusOut s = statusCode s.regs.status) ∧
  resultCode .ok = 0 ∧ resultCode .busy = 1 ∧ resultCode .error = 2 ∧ ∀ r, resultCode r ≠ 3

/-! ### The step -/

/-- When the next request decodes to an operation, the step is that operation's meaning on the state with the request taken
off its port; with no request the block stays as it is (log 1). -/
def Obligations.StepRunsTheDecodedOperation : Prop :=
  (∀ (s : State) (w : PortWord) (rest : List PortWord) (i : Instr),
    s.requests = w :: rest → decode s.cfg w = .ok i → step s = exec i { s with requests := rest }) ∧
  ∀ s : State, s.requests = [] → step s = .next s

/-- A command runs to its end with no step of a later one in between, and nothing of a later request reaches into it (60
rule R252): the outcome is that of the request alone, with the later requests still waiting. -/
def Obligations.CommandsDoNotOverlap : Prop :=
  ∀ (s : State) (w : PortWord) (rest : List PortWord),
    step { s with requests := w :: rest } = withRequests rest (step { s with requests := [w] })

/-! ### Transport (40). The operations are presented on the model's own port, with the tag `sequencer` (log 3). -/

/-- SETADDR (40 rule R124): one pointer-set frame; the pointer is `a` after OK, `a` or unchanged after FAIL. -/
def Obligations.SetAddrSetsThePointer : Prop :=
  ∀ (a : Byte) (s : State), ∃ t, exec (.setAddr a) s = .next t ∧ t.reply = .verdict (verdict s 0) ∧
    Recorded .sequencer [pointerSetOf s a (verdict s 0)] s t ∧ Drew 1 s t ∧
    (verdict s 0 = true → t.chip.ptr = a) ∧
    (verdict s 0 = false → t.chip.ptr = a ∨ t.chip.ptr = s.chip.ptr) ∧
    ChipBytesKeptOutside (fun _ => False) s t ∧ OnlyTheBus s t

/-- WRITE8 (40 rule R129): one frame, no pointer set first; the byte has arrived after OK, arrived or not after FAIL. -/
def Obligations.Write8StoresOneByte : Prop :=
  ∀ (a v : Byte) (s : State), ∃ t, exec (.write8 a v) s = .next t ∧ t.reply = .verdict (verdict s 0) ∧
    ByteWritten .sequencer a v s t ∧ OnlyTheBus s t

/-- WRITE16 (40 rules R125, R123; 20 rule R79): two frames, the second only after the first was OK; after OK the high byte stands
at `a` and the low byte at `a + 1`; after a failed second frame a prefix of the two bytes has arrived. -/
def Obligations.Write16StoresHighByteFirst : Prop :=
  ∀ (a : Byte) (v : U16) (s : State), ∃ t, exec (.write16 a v) s = .next t ∧
    t.reply = .verdict (verdict s 0 && verdict s 1) ∧ OnlyTheBus s t ∧
    ChipBytesKeptOutside (fun x => x = a ∨ x = a + 1) s t ∧
    (verdict s 0 = false → Recorded .sequencer [pointerSetOf s a false] s t ∧ Drew 1 s t ∧
      ChipBytesKeptOutside (fun _ => False) s t ∧ (t.chip.ptr = a ∨ t.chip.ptr = s.chip.ptr)) ∧
    (verdict s 0 = true →
      Recorded .sequencer [pointerSetOf s a true, blockWrite16Of s a v (verdict s 1)] s t ∧ Drew 2 s t) ∧
    (verdict s 0 = true → verdict s 1 = true → t.chip.ptr = a + 2 ∧
      chipByte t a = some (v.extractLsb' 8 8) ∧ chipByte t (a + 1) = some (v.extractLsb' 0 8)) ∧
    (verdict s 0 = true → verdict s 1 = false →
      ChipBytesKeptOutside (fun _ => False) s t ∨
      (chipByte t a = some (v.extractLsb' 8 8) ∧ ChipBytesKeptOutside (fun x => x = a) s t) ∨
      (chipByte t a = some (v.extractLsb' 8 8) ∧ chipByte t (a + 1) = some (v.extractLsb' 0 8)))

/-- WRITE24 (40 rules R126, R123; 20 rule R79): as WRITE16 with three bytes, most significant first. -/
def Obligations.Write24StoresThreeBytes : Prop :=
  ∀ (a : Byte) (v : U24) (s : State), ∃ t, exec (.write24 a v) s = .next t ∧
    t.reply = .verdict (verdict s 0 && verdict s 1) ∧ OnlyTheBus s t ∧
    ChipBytesKeptOutside (fun x => x = a ∨ x = a + 1 ∨ x = a + 2) s t ∧
    (verdict s 0 = false → Recorded .sequencer [pointerSetOf s a false] s t ∧ Drew 1 s t ∧
      ChipBytesKeptOutside (fun _ => False) s t ∧ (t.chip.ptr = a ∨ t.chip.ptr = s.chip.ptr)) ∧
    (verdict s 0 = true →
      Recorded .sequencer [pointerSetOf s a true, blockWrite24Of s a v (verdict s 1)] s t ∧ Drew 2 s t) ∧
    (verdict s 0 = true → verdict s 1 = true → t.chip.ptr = a + 3 ∧
      chipByte t a = some (v.extractLsb' 16 8) ∧ chipByte t (a + 1) = some (v.extractLsb' 8 8) ∧
      chipByte t (a + 2) = some (v.extractLsb' 0 8)) ∧
    (verdict s 0 = true → verdict s 1 = false →
      ChipBytesKeptOutside (fun _ => False) s t ∨
      (chipByte t a = some (v.extractLsb' 16 8) ∧ ChipBytesKeptOutside (fun x => x = a) s t) ∨
      (chipByte t a = some (v.extractLsb' 16 8) ∧ chipByte t (a + 1) = some (v.extractLsb' 8 8) ∧
        ChipBytesKeptOutside (fun x => x = a ∨ x = a + 1) s t) ∨
      (chipByte t a = some (v.extractLsb' 16 8) ∧ chipByte t (a + 1) = some (v.extractLsb' 8 8) ∧
        chipByte t (a + 2) = some (v.extractLsb' 0 8)))

/-- READ8 (40 rules R127, R123): pointer set, then one byte received; the chip's byte after OK, no value after FAIL. -/
def Obligations.Read8ReturnsTheChipsByte : Prop :=
  ∀ (a : Byte) (s : State), ∃ t, exec (.read8 a) s = .next t ∧
    t.reply = .byte (if verdict s 0 && verdict s 1 then some (upcoming s 1).b0 else none) ∧ OnlyTheBus s t ∧
    ChipBytesKeptOutside (fun _ => False) s t ∧
    (verdict s 0 = false → Recorded .sequencer [pointerSetOf s a false] s t ∧ Drew 1 s t) ∧
    (verdict s 0 = true → verdict s 1 = false →
      Recorded .sequencer [pointerSetOf s a true, byteReceiveOf s a [] false] s t ∧ Drew 2 s t) ∧
    (verdict s 0 = true → verdict s 1 = true →
      Recorded .sequencer [pointerSetOf s a true, byteReceiveOf s a [(upcoming s 1).b0] true] s t ∧ Drew 2 s t)

/-- READ16 (40 rules R128, R123): pointer set, then a block read of two; the first byte is the high one; after OK the pointer
is `a + 2`; no value after FAIL. -/
def Obligations.Read16ReturnsHighByteFirst : Prop :=
  ∀ (a : Byte) (s : State), ∃ t, exec (.read16 a) s = .next t ∧
    t.reply = .word (if verdict s 0 && verdict s 1 then some (wordAnswer s 1) else none) ∧ OnlyTheBus s t ∧
    ChipBytesKeptOutside (fun _ => False) s t ∧
    (verdict s 0 = false → Recorded .sequencer [pointerSetOf s a false] s t ∧ Drew 1 s t) ∧
    (verdict s 0 = true → verdict s 1 = false →
      Recorded .sequencer [pointerSetOf s a true, blockReadOf s a [] false] s t ∧ Drew 2 s t) ∧
    (verdict s 0 = true → verdict s 1 = true → t.chip.ptr = a + 2 ∧
      Recorded .sequencer [pointerSetOf s a true, blockReadOf s a [(upcoming s 1).b0, (upcoming s 1).b1] true] s t ∧
      Drew 2 s t)

/-! ### Control bytes (42 rules R165 to R174, R178; 30 rules R97, R98), presented on the model's own port (log 3) -/

/-- Each control-byte command, in the word the block forms of it, writes the control register's high byte with its function
code and the captured range selectors, and nothing else (42 rule R165). -/
def Obligations.ControlCommandsWriteTheHighByte : Prop :=
  ∀ s : State,
    let hi := fun fc => ctrlHiByte s.cfg fc s.regs.rgVr s.regs.rgPga
    let effect := fun (i : Instr) (fc : BitVec 4) => ∃ t, exec i s = .next t ∧ t.reply = .verdict (verdict s 0) ∧
      ByteWritten .sequencer s.cfg.aCtrlHi (hi fc) s t ∧ OnlyTheBus s t
    effect (.ccInit s.regs.rgVr s.regs.rgPga) s.cfg.fcInit ∧ effect (.ccStart s.regs.rgVr s.regs.rgPga) s.cfg.fcStart ∧
    effect (.ccIncr s.regs.rgVr s.regs.rgPga) s.cfg.fcIncr ∧
    effect (.ccRepeat s.regs.rgVr s.regs.rgPga) s.cfg.fcRepeat ∧
    effect (.ccMtemp s.regs.rgVr s.regs.rgPga) s.cfg.fcMtemp ∧
    effect (.ccPdown s.regs.rgVr s.regs.rgPga) s.cfg.fcPdown ∧
    effect (.ccStandby s.regs.rgVr s.regs.rgPga) s.cfg.fcStandby

/-- CL_WRITE(r), in the word the block forms of it, writes the control register's low byte with the reset bit and the
clock-source bit of the selected source: `CLK_EXT_VALUE` when it is external, else the other value (42 rule R167). -/
def Obligations.ClWriteCarriesTheClockBit : Prop :=
  ∀ (s : State) (r : BitVec 1),
    let c : BitVec 1 := if s.regs.clkSel ≠ s.cfg.intIdx then s.cfg.clkExtValue else 1 - s.cfg.clkExtValue
    ∃ t, exec (.clWrite r c) s = .next t ∧ t.reply = .verdict (verdict s 0) ∧
      ByteWritten .sequencer s.cfg.aCtrlLo (ctrlLoByte s.cfg r c) s t ∧ OnlyTheBus s t

/-- THE MODEL'S CHOICE (log 12): a control word with other selectors or another clock-source bit than the block's registers
give acts as the word the block would form. -/
def Obligations.ControlWordsTakeSelectorsFromRegisters : Prop :=
  ∀ (s : State) (vr : BitVec 2) (pga r c : BitVec 1),
    (exec (.ccInit vr pga) s = exec (.ccInit s.regs.rgVr s.regs.rgPga) s ∧
     exec (.ccStart vr pga) s = exec (.ccStart s.regs.rgVr s.regs.rgPga) s ∧
     exec (.ccIncr vr pga) s = exec (.ccIncr s.regs.rgVr s.regs.rgPga) s ∧
     exec (.ccRepeat vr pga) s = exec (.ccRepeat s.regs.rgVr s.regs.rgPga) s ∧
     exec (.ccMtemp vr pga) s = exec (.ccMtemp s.regs.rgVr s.regs.rgPga) s ∧
     exec (.ccPdown vr pga) s = exec (.ccPdown s.regs.rgVr s.regs.rgPga) s ∧
     exec (.ccStandby vr pga) s = exec (.ccStandby s.regs.rgVr s.regs.rgPga) s) ∧
    exec (.clWrite r c) s = exec (.clWrite r (clkSourceBit s.cfg s.regs.clkSel)) s

/-- The fields of the control register's high byte (30 rule R97, 10 rule R41): `FC` in bits 7:4, `VR` at `VR_HI`:`VR_LO`,
`PGA` at `PGA_BIT`, the remaining bit of 3:0 zero. -/
def Obligations.HighControlByteFields : Prop :=
  ∀ (c : Config) (fc : BitVec 4) (vr : BitVec 2) (pga : BitVec 1), c.WfPositions →
    (ctrlHiByte c fc vr pga).extractLsb' 4 4 = fc ∧ (ctrlHiByte c fc vr pga).extractLsb' c.vrLo.val 2 = vr ∧
    (ctrlHiByte c fc vr pga).extractLsb' c.pgaBit.val 1 = pga ∧
    ∀ j : Fin 4, j ≠ c.vrHi → j ≠ c.vrLo → j ≠ c.pgaBit → (ctrlHiByte c fc vr pga).getLsbD j.val = false

/-- The fields of the control register's low byte (30 rule R98, 10 rule R42): `RST`, `CLKSRC`, all other bits zero. -/
def Obligations.LowControlByteFields : Prop :=
  ∀ (c : Config) (r k : BitVec 1), c.WfPositions →
    (ctrlLoByte c r k).extractLsb' c.rstBit.val 1 = r ∧ (ctrlLoByte c r k).extractLsb' c.clkBit.val 1 = k ∧
    ∀ j : Fin 8, j ≠ c.rstBit → j ≠ c.clkBit → (ctrlLoByte c r k).getLsbD j.val = false

/-- NINC16 and SETTLE16 (30 rule R101): the count in bits 8:0, the multiplier code in bits 10:9, the rest zero. The
rule gives both for counts up to 511; that NINC16 of a larger count is its low 9 bits is the model's choice (DEDUCED, log 20). -/
def Obligations.CountAndSettlingFormats : Prop :=
  (∀ n : U16, n.toNat ≤ 511 → ninc16 n = n) ∧ (∀ n : U16, (ninc16 n).toNat = n.toNat % 512) ∧
  ∀ (c : Config) (m : SettleMult) (n : U16), n.toNat ≤ 511 →
    (settle16 c m n).extractLsb' 0 9 = n.extractLsb' 0 9 ∧ (settle16 c m n).extractLsb' 9 2 = multCode c m ∧
    (settle16 c m n).extractLsb' 11 5 = 0#5

/-! ### Frequency codec (41) -/

/-- FREQ2REG is the floor of `2^29 f / c`, zero at zero, non-decreasing in `f`, non-increasing in `c`, and below `2^24` exactly
when `32 f < c` (41 rule R150). -/
def Obligations.Freq2RegIsTheFloor : Prop :=
  (∀ f c : Nat, 0 < c → freq2reg f c * c ≤ 2 ^ 29 * f ∧ 2 ^ 29 * f < (freq2reg f c + 1) * c) ∧
  (∀ c : Nat, freq2reg 0 c = 0) ∧ (∀ f g c : Nat, f ≤ g → freq2reg f c ≤ freq2reg g c) ∧
  (∀ f c d : Nat, 0 < c → c ≤ d → freq2reg f d ≤ freq2reg f c) ∧
  (∀ f c : Nat, 0 < c → (freq2reg f c < 2 ^ 24 ↔ 32 * f < c)) ∧ freq2reg 30000 16776000 = 0x0EA645

/-- FITS24 holds exactly when `32 f < c`, and then the 24-bit value is the code itself (41 rule R152). -/
def Obligations.Fits24IffBelowRate : Prop :=
  (∀ f c : Nat, 0 < c → (fits24 f c = true ↔ 32 * f < c)) ∧
  (∀ f c : Nat, fits24 f c = true ↔ freq2reg f c < 2 ^ 24) ∧
  (∀ f c : U32, fits24 f.toNat c.toNat = true → (freqCode f c).toNat = freq2reg f.toNat c.toNat) ∧
  ∀ (f : U32) (n : U16) (s : State) (r : Bool × State), programSweep f n s = .ok r →
    ∃ k, selClk s.cfg f = some k ∧ fits24 f.toNat (rateOf s.cfg k) = true ∧
      fits24 s.regs.swInc.toNat (rateOf s.cfg k) = true

/-- The round trip of the codec is exact in whole hertz (41 rule R154). -/
def Obligations.FrequencyRoundTrip : Prop :=
  ∀ f c : Nat, 0 < c → c < 2 ^ 28 → fits24 f c = true → reg2freq (freq2reg f c) c = f

/-- The chip's register drifts below the code of the block's own frequency by at most one unit per increment (41 rule
R155). -/
def Obligations.IncrementDriftIsBounded : Prop :=
  ∀ start inc i c : Nat, 0 < c →
    freq2reg start c + i * freq2reg inc c ≤ freq2reg (start + i * inc) c ∧
    freq2reg (start + i * inc) c ≤ freq2reg start c + i * freq2reg inc c + i

/-! ### Clock selector and sequencer (42) -/

/-- SELCLK is a total, monotonic step function that changes at every threshold (42 rules R161, R164). -/
def Obligations.ClockSelectionIsAStepFunction : Prop :=
  ∀ c : Config, c.WfClocks →
    (∀ f : U32, (selClk c f = none ↔ f.toNat < c.clkThr.k0.toNat) ∧
      (selClk c f = some 0 ↔ c.clkThr.k0.toNat ≤ f.toNat ∧ f.toNat < c.clkThr.k1.toNat) ∧
      (selClk c f = some 1 ↔ c.clkThr.k1.toNat ≤ f.toNat ∧ f.toNat < c.clkThr.k2.toNat) ∧
      (selClk c f = some 2 ↔ c.clkThr.k2.toNat ≤ f.toNat ∧ f.toNat < c.clkThr.k3.toNat) ∧
      (selClk c f = some 3 ↔ c.clkThr.k3.toNat ≤ f.toNat)) ∧
    (∀ f g : U32, f ≤ g → ∀ k, selClk c f = some k → ∃ l, selClk c g = some l ∧ k ≤ l) ∧
    ∀ k : ClkIdx, 0 < (c.clkThr.get k).toNat → selClk c (c.clkThr.get k - 1) ≠ selClk c (c.clkThr.get k)

/-- RANGECHK: some band contains the frequency and its code fits under that band's clock; only band 3 can fail the second
part (42 rule R168). -/
def Obligations.RangeCheckMeaning : Prop :=
  ∀ c : Config, c.WfClocks → ∀ f : U32,
    (rangeChk c f = true ↔ ∃ k, selClk c f = some k ∧ 32 * f.toNat < rateOf c k) ∧
    ∀ k, selClk c f = some k → k ≠ 3 → rangeChk c f = true

/-- SETCLK(k): the generator is stopped if it ran, an external source sets the prescaler and starts it, then the clock-source
bit is written; the shadows follow whatever the verdict (42 rule R163). -/
def Obligations.SetClkSequence : Prop :=
  ∀ (k : ClkIdx) (s : State), ∃ t, setClk k s = (verdict s 0, t) ∧
    Recorded s.issuer (clockRequests s k ++ [clockBitOf s k (verdict s 0)]) s t ∧ Drew 1 s t ∧
    t.regs = clockSelected s.cfg k s.regs ∧ t.gen = generatorAfter s k ∧ EnvironmentKept s t ∧ CallersKept s t ∧
    ChipBytesKeptOutside (fun a => a = s.cfg.aCtrlLo) s t

/-- PROGRAM_SWEEP carries out its plan in order, stops at the first FAIL, arms the wait only at the end, and returns whether
the plan was carried out whole (42 rules R175, R177). -/
def Obligations.ProgramSweepFollowsItsPlan : Prop :=
  ∀ (k : ClkIdx) (f : U32) (n : U16) (s : State),
    selClk s.cfg f = some k → fits24 f.toNat (rateOf s.cfg k) = true →
    fits24 s.regs.swInc.toNat (rateOf s.cfg k) = true →
    let e := runPlan (verdict s) 0 (sweepPlan s k f n)
    ∃ t, programSweep f n s = .ok (e.2, t) ∧ Recorded s.issuer e.1 s t ∧
      (e.2 = true → t.regs =
        { clockSelected s.cfg k s.regs with waitStart := s.regs.tickCnt, waitActive := true }) ∧
      (e.2 = false → t.regs = if verdict s 0 then clockSelected s.cfg k s.regs else s.regs) ∧
      t.gen = (if verdict s 0 then generatorAfter s k else s.gen) ∧ EnvironmentKept s t ∧ CallersKept s t ∧
      ChipBytesKeptOutside (SweepRegisterByte s.cfg) s t

/-- The guards of PROGRAM_SWEEP stop the model before any frame, and a truncated code is never written (42 rule R176). -/
def Obligations.ProgramSweepGuards : Prop :=
  ∀ (f : U32) (n : U16) (s : State),
    (selClk s.cfg f = none → programSweep f n s = .error .noClockForFrequency) ∧
    (∀ k, selClk s.cfg f = some k →
      ¬ (32 * f.toNat < rateOf s.cfg k ∧ 32 * s.regs.swInc.toNat < rateOf s.cfg k) → 0 < rateOf s.cfg k →
      programSweep f n s = .error .frequencyNotRepresentable)

/-! ### Host commands (43, 44) -/

/-- INIT (43 rule R191, 70 rule R272): the reset values, the generator stopped whatever the shadow was, the three writes of
CHIP_RESET whatever their verdicts, Idle; if they were accepted the chip holds standby with selectors 0 and a low byte with
reset bit 0 and the internal clock. -/
def Obligations.InitEffect : Prop :=
  ∀ s : State, ∃ t, exec .init s = .next t ∧ t.reply = .nothing ∧
    (let c := s.cfg
     let clk : BitVec 1 := 1 - c.clkExtValue
     let hi := ctrlHiByte c c.fcStandby 0 0
     t.regs = { s.regs with
       status := .idle, waitActive := false, tickCnt := 0, point := 0, avgCnt := 0, sumR := 0, sumI := 0
       rgPga := 0, rgVr := 0, clkSel := c.intIdx, cgRun := false, cgPsc := 0 } ∧
     t.gen = { s.gen with running := false } ∧
     Recorded .init [.cgStop, byteWriteOf s c.aCtrlHi hi (verdict s 0),
       byteWriteOf s c.aCtrlLo (ctrlLoByte c 1 clk) (verdict s 1),
       byteWriteOf s c.aCtrlLo (ctrlLoByte c 0 clk) (verdict s 2)] s t ∧
     (c.aCtrlHi ≠ c.aCtrlLo → verdict s 0 = true → verdict s 1 = true → verdict s 2 = true →
       chipByte t c.aCtrlHi = some hi ∧ chipByte t c.aCtrlLo = some (ctrlLoByte c 0 clk))) ∧
    Drew 3 s t ∧ EnvironmentKept s t ∧ CallersKept s t ∧
    ChipBytesKeptOutside (fun a => a = s.cfg.aCtrlHi ∨ a = s.cfg.aCtrlLo) s t

/-- RESET (43 rule R192): CHIP_RESET with the captured selectors and the selected clock, the wait and the accumulators
cleared, Idle returned; all else keeps its value, from every state. -/
def Obligations.ResetEffect : Prop :=
  ∀ s : State, ∃ t, exec .reset s = .next t ∧ t.reply = .status .idle ∧
    t.regs = { s.regs with status := .idle, waitActive := false, sumR := 0, sumI := 0, avgCnt := 0 } ∧
    t.gen = s.gen ∧
    (let lo := fun r => ctrlLoByte s.cfg r (clkSourceBit s.cfg s.regs.clkSel)
     Recorded .reset [controlOf s s.cfg.fcStandby (verdict s 0), byteWriteOf s s.cfg.aCtrlLo (lo 1) (verdict s 1),
       byteWriteOf s s.cfg.aCtrlLo (lo 0) (verdict s 2)] s t) ∧
    Drew 3 s t ∧ EnvironmentKept s t ∧ CallersKept s t ∧
    ChipBytesKeptOutside (fun a => a = s.cfg.aCtrlHi ∨ a = s.cfg.aCtrlLo) s t

/-- ISBUSY answers 1 in MeasureImpedance, MeasureTemp and Calibrate and 0 in the other five states, and changes nothing
(43 rule R193). -/
def Obligations.IsBusyAnswers : Prop :=
  ∀ s : State, ∃ t, exec .isBusy s = .next t ∧
    t.reply = .flag (decide (s.regs.status ∈ [Status.measureImpedance, .measureTemp, .calibrate])) ∧
    NothingChanged s t ∧ Recorded .isBusy [] s t

/-- GET_SWEEP_COUNT returns `POINT` in any state and changes nothing (43 rule R194). -/
def Obligations.SweepCountReturnsPoint : Prop :=
  ∀ s : State, ∃ t, exec .getSweepCount s = .next t ∧ t.reply = .count s.regs.point ∧ NothingChanged s t ∧
    Recorded .getSweepCount [] s t

/-- MEASURE_IMPEDANCE, validation (43 rule R196): in Uninit Error, in a busy state Busy whatever the arguments, else Error when a
check V3 to V10 fails; nothing is written and nothing is sent. -/
def Obligations.FailedValidationChangesNothing : Prop :=
  ∀ (sw : SweepSpec) (rg : RangeSettings) (buffer : Handle) (s : State),
    let ends := fun (r : ResultCode) (cause : Cause) =>
      ∃ t, exec (.measureImpedance sw rg buffer) s = .next t ∧ t.reply = .code r ∧ NothingChanged s t ∧
        Recorded .measureImpedance [.ended r cause] s t
    (s.regs.status = .uninit → ends .error .notInitialised) ∧
    (isBusyStatus s.regs.status = true → ends .busy .busy) ∧
    (Ready s → (∀ k, ¬ OperandsAdmissible s.cfg sw k) → ends .error .invalidArgument)

/-- MEASURE_IMPEDANCE with admissible operands in Idle or a finished state (43 rules R197, R198): the operands are captured,
PROGRAM_SWEEP is carried out; if whole, the sweep begins and Ok is returned; if a frame failed, Error is returned, STATUS,
POINT, FREQ_CUR and the wait stay, and the captured copies and the clock shadows keep what was written. -/
def Obligations.MeasureImpedanceStartsOrFails : Prop :=
  ∀ (sw : SweepSpec) (rg : RangeSettings) (buffer : Handle) (k : ClkIdx) (s : State),
    Ready s → OperandsAdmissible s.cfg sw k →
    let r := captureOperands sw rg buffer s.regs
    let e := runPlan (verdict s) 0 (sweepPlan (setRegs r s) k sw.start sw.increments)
    ∃ t, exec (.measureImpedance sw rg buffer) s = .next t ∧
      (e.2 = true → t.reply = .code .ok ∧ t.regs = { clockSelected s.cfg k r with
        waitStart := s.regs.tickCnt, waitActive := true, point := 0, freqCur := sw.start, sumR := 0, sumI := 0
        avgCnt := 0, status := .measureImpedance } ∧
        Recorded .measureImpedance (e.1 ++ [.ended .ok .none]) s t) ∧
      (e.2 = false → t.reply = .code .error ∧
        t.regs = (if verdict s 0 then clockSelected s.cfg k r else r) ∧
        Recorded .measureImpedance (e.1 ++ [.ended .error .transportFailure]) s t) ∧
      t.gen = (if verdict s 0 then generatorAfter s k else s.gen) ∧ EnvironmentKept s t ∧ CallersKept s t ∧
      ChipBytesKeptOutside (SweepRegisterByte s.cfg) s t

/-- Every operation but TICK always gives a next state, also MEASURE_IMPEDANCE, which cannot fault, and CALIBRATE; TICK gives a
next state or a fault in every state but Calibrate (42 rule R176, 60 rule R243). That CALIBRATE goes on is DEDUCED (log 16): 43
rules R190 and R199 and 60 rule R241 say that it is refused. -/
def Obligations.EveryOperationIsAnswered : Prop :=
  ∀ (i : Instr) (s : State),
    (i ≠ .tick → ∃ t, exec i s = .next t) ∧
    (i = .tick → s.regs.status ≠ .calibrate → (∃ t, exec i s = .next t) ∨ ∃ f, exec i s = .fault f)

/-- MEASURE_TEMPERATURE (44 rule R231): Error in Uninit and Busy in a busy state with nothing written and nothing sent; else
the handle is captured and CC_MTEMP sent, and its verdict decides between MeasureTemp with Ok and Error with STATUS as it
was. -/
def Obligations.MeasureTemperatureOutcome : Prop :=
  ∀ (dest : Handle) (s : State), ∃ t, exec (.measureTemperature dest) s = .next t ∧
    (s.regs.status = .uninit → t.reply = .code .error ∧ NothingChanged s t ∧
      Recorded .measureTemperature [.ended .error .notInitialised] s t) ∧
    (isBusyStatus s.regs.status = true → t.reply = .code .busy ∧ NothingChanged s t ∧
      Recorded .measureTemperature [.ended .busy .busy] s t) ∧
    (Ready s → EnvironmentKept s t ∧ CallersKept s t ∧ t.gen = s.gen ∧ Drew 1 s t ∧
      ChipBytesKeptOutside (fun a => a = s.cfg.aCtrlHi) s t ∧
      (verdict s 0 = true → t.reply = .code .ok ∧
        t.regs = { s.regs with tempRef := dest, status := .measureTemp } ∧
        Recorded .measureTemperature [controlOf s s.cfg.fcMtemp true, .ended .ok .none] s t) ∧
      (verdict s 0 = false → t.reply = .code .error ∧ t.regs = { s.regs with tempRef := dest } ∧
        Recorded .measureTemperature [controlOf s s.cfg.fcMtemp false, .ended .error .transportFailure] s t))

/-- CALIBRATE is answered with Error and the label NotModelled in every state, and changes nothing (93 U5, 60 rule R240; that
this is how 43 rule R199's "refuses" is meant is DEDUCED, log 16). TICK in the state Calibrate is refused, and no operation
enters the states Calibrate and FinishCalib (43 rules R199, R203). -/
def Obligations.CalibrateAnswersErrorAndEntersNoState : Prop :=
  (∀ s : State, ∃ t, exec .calibrate s = .next t ∧ t.reply = .code .error ∧ NothingChanged s t ∧
    Recorded .calibrate [.ended .error .calibrationNotModelled] s t) ∧
  (∀ s : State, s.regs.status = .calibrate → exec .tick s = .refused .calibrationEngineOutOfScope) ∧
  ∀ (i : Instr) (s t : State), exec i s = .next t →
    (t.regs.status = .calibrate → s.regs.status = .calibrate) ∧
    (t.regs.status = .finishCalib → s.regs.status = .finishCalib)

/-! ### TICK (43) -/

/-- TICK outside the busy states counts and returns STATUS, and nothing else happens (43 rules R202, R203). -/
def Obligations.TickOutsideBusyOnlyCounts : Prop :=
  ∀ s : State, isBusyStatus s.regs.status = false →
    ∃ t, exec .tick s = .next t ∧ t.reply = .status s.regs.status ∧ t.regs = counted s.regs ∧
      NothingChanged (setRegs (counted s.regs) s) t ∧ Recorded .tick [] s t

/-- TICK during the wait (43 rule R204): until `(TICKCNT - WAIT_START) mod 2^32` exceeds `WAIT_TICKS` it only counts; then it
sends CC_START and clears the wait whatever the verdict; STATUS is returned unchanged and the status byte is not polled. -/
def Obligations.TickWaitsForTheCapacitor : Prop :=
  ∀ s : State, s.regs.status = .measureImpedance → s.regs.waitActive = true →
    ∃ t, exec .tick s = .next t ∧ t.reply = .status .measureImpedance ∧
      (((s.regs.tickCnt + 1) - s.regs.waitStart).toNat ≤ s.cfg.waitTicks →
        t.regs = counted s.regs ∧ NothingChanged (setRegs (counted s.regs) s) t ∧ Recorded .tick [] s t) ∧
      (s.cfg.waitTicks < ((s.regs.tickCnt + 1) - s.regs.waitStart).toNat →
        t.regs = { counted s.regs with waitActive := false } ∧
        ByteWritten .tick s.cfg.aCtrlHi (ctrlHiByte s.cfg s.cfg.fcStart s.regs.rgVr s.regs.rgPga) s t ∧
        EnvironmentKept s t ∧ CallersKept s t ∧ t.gen = s.gen)

/-- A polling TICK without a sample: a read failed or the data-valid bit is clear; it only counts, whatever the other bits
(43 rules R205, R206, R211, R214). -/
def Obligations.TickWithoutSampleOnlyCounts : Prop :=
  ∀ s : State, s.regs.status = .measureImpedance → s.regs.waitActive = false → ¬ SampleAvailable s →
    ∃ t, exec .tick s = .next t ∧ t.reply = .status .measureImpedance ∧ t.regs = counted s.regs ∧ t.gen = s.gen ∧
      EnvironmentKept s t ∧ CallersKept s t ∧ ChipBytesKeptOutside (fun _ => False) s t

/-- A polling TICK whose sample does not complete the average (43 rule R207): the sample is added, counted, and CC_REPEAT is
sent whatever its verdict. -/
def Obligations.TickAccumulatesAndRepeats : Prop :=
  ∀ s : State, Sampling s → s.regs.avgCnt + 1 < s.regs.swAvg →
    ∃ t, exec .tick s = .next t ∧ t.reply = .status .measureImpedance ∧
      t.regs = { counted s.regs with
        sumR := s.regs.sumR + (wordAnswer s 3).signExtend 32, sumI := s.regs.sumI + (wordAnswer s 5).signExtend 32
        avgCnt := s.regs.avgCnt + 1 } ∧
      Recorded .tick (sampleFrames s ++ [controlOf s s.cfg.fcRepeat (verdict s 6)]) s t ∧ Drew 7 s t ∧
      t.gen = s.gen ∧ EnvironmentKept s t ∧ CallersKept s t ∧
      ChipBytesKeptOutside (fun a => a = s.cfg.aCtrlHi) s t

/-- A polling TICK that completes a point with the sweep-complete bit set (43 rules R208 to R210): the record is stored, the
position advances, STATUS becomes FinishImpedance, and no frame is sent after the reads. The clause over the storage of other
handles rests on log 11. -/
def Obligations.TickFinishesTheSweep : Prop :=
  ∀ s : State, CompletesPoint s → sweepDone (upcoming s 1).b0 = true →
    ∃ t, exec .tick s = .next t ∧ t.reply = .status .finishImpedance ∧
      t.regs = { advanced s.regs with status := .finishImpedance } ∧ PointStored s t ∧
      Recorded .tick (pointEvents s) s t ∧ Drew 6 s t ∧ t.gen = s.gen ∧ EnvironmentKept s t ∧
      ChipBytesKeptOutside (fun _ => False) s t

/-- A polling TICK that completes a point whose successor is in the current band (43 rules R208 to R210): the record is
stored, the position advances and CC_INCR is sent whatever its verdict. The clause over the storage of other handles rests on
log 11. -/
def Obligations.TickStoresAndIncrements : Prop :=
  ∀ s : State, CompletesPoint s → sweepDone (upcoming s 1).b0 = false →
    selClk s.cfg (s.regs.freqCur + s.regs.swInc) = some s.regs.clkSel →
    ∃ t, exec .tick s = .next t ∧ t.reply = .status .measureImpedance ∧ t.regs = advanced s.regs ∧ PointStored s t ∧
      Recorded .tick (pointEvents s ++ [controlOf s s.cfg.fcIncr (verdict s 6)]) s t ∧ Drew 7 s t ∧
      t.gen = s.gen ∧ EnvironmentKept s t ∧ ChipBytesKeptOutside (fun a => a = s.cfg.aCtrlHi) s t

/-- A polling TICK that completes a point whose successor lies in another band (43 rule R210, 42 rule R179): the record is
stored, the position advances and PROGRAM_SWEEP is carried out for the next frequency and the increments left; a failed
frame stops it without arming the wait, and the result is ignored. The clause over the storage of other handles rests on log
11, the event of a failed block frame on log 28. -/
def Obligations.TickChangesTheClock : Prop :=
  ∀ (s : State) (k : ClkIdx), CompletesPoint s → sweepDone (upcoming s 1).b0 = false →
    selClk s.cfg (s.regs.freqCur + s.regs.swInc) = some k → k ≠ s.regs.clkSel →
    fits24 (s.regs.freqCur + s.regs.swInc).toNat (rateOf s.cfg k) = true →
    fits24 s.regs.swInc.toNat (rateOf s.cfg k) = true →
    let left : U16 := if s.regs.point + 1 ≤ s.regs.swNinc then s.regs.swNinc - (s.regs.point + 1) else 0
    let e := runPlan (verdict s) 6 (sweepPlan s k (s.regs.freqCur + s.regs.swInc) left)
    ∃ t, exec .tick s = .next t ∧ t.reply = .status .measureImpedance ∧ PointStored s t ∧
      (e.2 = true → t.regs = { clockSelected s.cfg k (advanced s.regs) with
        waitStart := s.regs.tickCnt + 1, waitActive := true }) ∧
      (e.2 = false → t.regs =
        if verdict s 6 then clockSelected s.cfg k (advanced s.regs) else advanced s.regs) ∧
      Recorded .tick (pointEvents s ++ e.1) s t ∧
      t.gen = (if verdict s 6 then generatorAfter s k else s.gen) ∧ EnvironmentKept s t ∧
      ChipBytesKeptOutside (SweepRegisterByte s.cfg) s t

/-- Where TICK faults (43 rule R208, 42 rule R176): a completed point outside the caller's array; a next frequency that no clock
produces; one with no 24-bit code under its clock. -/
def Obligations.TickFaultsWhereTheSourceIsSilent : Prop :=
  (∀ s : State, Sampling s → ¬ (s.regs.avgCnt + 1 < s.regs.swAvg) → s.regs.swNinc < s.regs.point →
    exec .tick s = .fault .bufferOverrun) ∧
  (∀ s : State, CompletesPoint s → sweepDone (upcoming s 1).b0 = false →
    selClk s.cfg (s.regs.freqCur + s.regs.swInc) = none → exec .tick s = .fault .noClockForFrequency) ∧
  ∀ (s : State) (k : ClkIdx), CompletesPoint s → sweepDone (upcoming s 1).b0 = false →
    selClk s.cfg (s.regs.freqCur + s.regs.swInc) = some k → k ≠ s.regs.clkSel →
    (fits24 (s.regs.freqCur + s.regs.swInc).toNat (rateOf s.cfg k) &&
      fits24 s.regs.swInc.toNat (rateOf s.cfg k)) = false →
    exec .tick s = .fault .frequencyNotRepresentable

/-- TICK in MeasureTemp (44 rule R232): when a read fails or the temperature bit is clear it only counts; else the decoded
temperature is written to the caller's cell, once, and STATUS becomes FinishTemp. That every other cell and the records keep
their value rests on the model's choice that different handles name disjoint storage (DESIGN CHOICE, log 11, unsafe). -/
def Obligations.TickDeliversTheTemperature : Prop :=
  ∀ s : State, s.regs.status = .measureTemp →
    ∃ t, exec .tick s = .next t ∧ t.gen = s.gen ∧ EnvironmentKept s t ∧
      ChipBytesKeptOutside (fun _ => False) s t ∧
      (∀ ref i, sampleAt t ref i = sampleAt s ref i) ∧
      (∀ ref, ref ≠ s.regs.tempRef → tempAt t ref = tempAt s ref) ∧
      (¬ TempAvailable s → t.reply = .status .measureTemp ∧ t.regs = counted s.regs ∧
        tempAt t s.regs.tempRef = tempAt s s.regs.tempRef) ∧
      (TempAvailable s → t.reply = .status .finishTemp ∧ t.regs = { counted s.regs with status := .finishTemp } ∧
        tempAt t s.regs.tempRef = some (decodeTemp (wordAnswer s 3)) ∧
        Recorded .tick [pointerSetOf s s.cfg.aStatus true, byteReceiveOf s s.cfg.aStatus [(upcoming s 1).b0] true,
          pointerSetOf s s.cfg.aTemp true, blockReadOf s s.cfg.aTemp [(upcoming s 3).b0, (upcoming s 3).b1] true,
          .tempWrite s.regs.tempRef (decodeTemp (wordAnswer s 3))] s t)

/-- DECODE_TEMP: `t[13:0]` as a 14-bit two's-complement number; bits 15:14 are ignored (44 rule R233). -/
def Obligations.TemperatureDecoding : Prop :=
  ∀ t : U16, (decodeTemp t).toInt =
    if t.toNat % 2 ^ 14 < 2 ^ 13 then ((t.toNat % 2 ^ 14 : Nat) : Int) else ((t.toNat % 2 ^ 14 : Nat) : Int) - 2 ^ 14

/-- The averaging law (43 rule R213): the record of a point whose samples are `xs` holds the integer-truncated means, for any
number of samples up to 65535, without overflow on the way (10 rule R28). -/
def Obligations.StoredPointIsTheTruncatedMean : Prop :=
  ∀ (xs : List (U16 × U16)) (r : Regs), r.sumR = 0 → r.sumI = 0 → r.avgCnt = 0 → 0 < xs.length → xs.length ≤ 65535 →
    let q := xs.foldl (fun q x => accumulate x.1 x.2 q) r
    (pointRecord q).freq = r.freqCur ∧
    (pointRecord q).re.toInt = ((xs.map fun x : U16 × U16 => x.1.toInt).sum).tdiv xs.length ∧
    (pointRecord q).im.toInt = ((xs.map fun x : U16 × U16 => x.2.toInt).sum).tdiv xs.length

/-- A TICK makes at most eleven transport operations and three generator requests, and at most four operations unless it begins
a clock change with standby (43 rules R201, R216). -/
def Obligations.TickBusWorkIsBounded : Prop :=
  ∀ s t : State, exec .tick s = .next t → ∃ es, Recorded .tick es s t ∧ operationCount es ≤ 11 ∧ requestCount es ≤ 3 ∧
    (operationCount es ≤ 4 ∨ ∃ ok, controlOf s s.cfg.fcStandby ok ∈ es)

/-! ### The whole machine -/

/-- The registers right after hardware reset, for every set of parameters (10 rule R30). -/
def Obligations.HardwareResetValues : Prop :=
  State.reset = State.atReset Config.suggested ∧
  ∀ c : Config, let r := (State.atReset c).regs
    r.status = .uninit ∧ r.waitActive = false ∧ r.tickCnt = 0 ∧ r.point = 0 ∧ r.avgCnt = 0 ∧ r.sumR = 0 ∧
    r.sumI = 0 ∧ r.rgPga = 0 ∧ r.rgVr = 0 ∧ r.clkSel = c.intIdx ∧ r.cgRun = false ∧ r.cgPsc = 0

/-- The machine right after reset meets the invariant, for every admissible set of parameters; the suggested one is
admissible (00 rule R6). -/
def Obligations.ResetMeetsTheInvariant : Prop :=
  Config.suggested.Wf ∧ ∀ c : Config, c.Wf → Inv (State.atReset c)

/-- Every step keeps the invariant: memory in canonical form, control state, clock shadows, the running sweep's bounds and
frequencies, and the records already stored. -/
def Obligations.StepKeepsTheInvariant : Prop :=
  ∀ s t : State, Inv s → step s = .next t → Inv t

/-- The control state changes only as 10 rule R22 lists. -/
def Obligations.ControlStateChangesOnlyAsListed : Prop :=
  ∀ (i : Instr) (s t : State), ControlInv s.regs → exec i s = .next t →
    controlState t = controlState s ∨
    ((i = .init ∨ i = .reset) ∧ controlState t = (.idle, false)) ∨
    (∃ sw rg b, i = .measureImpedance sw rg b ∧ t.reply = .code .ok ∧ controlState t = (.measureImpedance, true)) ∨
    (∃ d, i = .measureTemperature d ∧ t.reply = .code .ok ∧ controlState t = (.measureTemp, false)) ∨
    (i = .tick ∧ controlState s = (.measureImpedance, true) ∧ controlState t = (.measureImpedance, false)) ∨
    (i = .tick ∧ controlState s = (.measureImpedance, false) ∧ controlState t = (.measureImpedance, true)) ∨
    (i = .tick ∧ controlState s = (.measureImpedance, false) ∧ controlState t = (.finishImpedance, false)) ∨
    (i = .tick ∧ controlState s = (.measureTemp, false) ∧ controlState t = (.finishTemp, false))

/-- Each operation writes only the registers the access matrix gives it, and none writes the parameters (10 rule R31). -/
def Obligations.OperationsWriteOnlyTheirRegisters : Prop :=
  ∀ (i : Instr) (s t : State), exec i s = .next t → WritesOnly i s.regs t.regs ∧ t.cfg = s.cfg

/-- The commands of the host and TICK access each chip register with exactly its operation and width, nothing outside the ten
registers, and never send the power-down code (20 rules R62, R67; 30 rule R105; 42 rule R180). That the event of a failed block
frame holds the whole frame is the model's choice (DESIGN CHOICE, log 28). -/
def Obligations.BlockMakesOnlyItsOwnFrames : Prop :=
  ∀ (i : Instr) (s t : State), IsHostOperation i → exec i s = .next t →
    ∃ es, Recorded (issuerOf i) es s t ∧ ∀ e ∈ es, BlockMakes s.cfg e

/-- The history only grows, each event tagged with the operation that issued it; and over its requests the generator's
prescaler is never changed while its output runs, ending as `CG_RUN` says (20 rule R78, 42 rules R163, R180). -/
def Obligations.PrescalerChangesOnlyWhileStopped : Prop :=
  ∀ (i : Instr) (s t : State), exec i s = .next t →
    ∃ es, Recorded (issuerOf i) es s t ∧ generatorRun s.regs.cgRun es = some t.regs.cgRun

/-- No operation reads `RG_ATTEN` or `RG_RFB`: with other values there, the outcome is the same but for these two (10 rule
R25). -/
def Obligations.OpaqueRangeFieldsAreNeverRead : Prop :=
  ∀ (i : Instr) (s : State) (x y : U32), SameButOpaque (exec i s) (exec i (scrambled x y s))

/-- Under the invariant, TICK faults only past the programmed sweep or outside the representable range: BufferOverrun after
`SW_NINC + 1` points, NoClockForFrequency only after the last programmed point, FrequencyNotRepresentable only there or
when the next frequency has reached `CLK_RATE[3] / 32` (42 rule R176, 60 rule R243). -/
def Obligations.TickFaultsOnlyPastTheSweepOrTheRange : Prop :=
  ∀ (s : State) (f : Fault), Inv s → exec .tick s = .fault f →
    s.regs.status = .measureImpedance ∧ s.regs.waitActive = false ∧
    (f = .bufferOverrun → s.regs.point.toNat = s.regs.swNinc.toNat + 1) ∧
    (f = .noClockForFrequency → s.regs.point = s.regs.swNinc) ∧
    (f = .frequencyNotRepresentable →
      s.regs.point = s.regs.swNinc ∨ rateOf s.cfg 3 ≤ 32 * (s.regs.freqCur.toNat + s.regs.swInc.toNat))

/-- When a sweep finishes, the caller's buffer holds every counted point at its index with the frequency
`SW_START + i SW_INC`; if the chip reported completion with the last programmed point, the count is `SW_NINC + 1` (43 rule
R212). -/
def Obligations.FinishedSweepHoldsEveryPoint : Prop :=
  ∀ s t : State, Inv s → s.regs.status = .measureImpedance → exec .tick s = .next t →
    t.regs.status = .finishImpedance →
    RecordsInv t ∧ t.regs.point = s.regs.point + 1 ∧
    (s.regs.point = s.regs.swNinc → t.regs.point.toNat = t.regs.swNinc.toNat + 1)

/-- From arming the wait, `WAIT_TICKS` ticks send nothing and the next one sends start-sweep, once (43 rule R204, 70 rule R288). -/
def Obligations.StartSweepComesAfterTheWait : Prop :=
  ∀ s : State, s.regs.status = .measureImpedance → s.regs.waitActive = true → s.regs.waitStart = s.regs.tickCnt →
    s.cfg.waitTicks < 2 ^ 31 → s.requests = List.replicate (s.cfg.waitTicks + 1) PortWord.tickReq →
    (∃ t : State, Sys2Proof.core.run s.cfg.waitTicks s = .next t ∧ t.history = s.history ∧
      t.regs = { s.regs with tickCnt := s.regs.tickCnt + BitVec.ofNat 32 s.cfg.waitTicks }) ∧
    ∃ u : State, Sys2Proof.core.run (s.cfg.waitTicks + 1) s = .next u ∧
      u.history = s.history ++ [⟨.tick, controlOf s s.cfg.fcStart (verdict s 0)⟩] ∧
      u.regs = { s.regs with
        tickCnt := s.regs.tickCnt + BitVec.ofNat 32 (s.cfg.waitTicks + 1), waitActive := false }
end

