-- ==== Sys2Proof/Laws/State.lean ====
section
/-! SUPPORT. One lemma per field per named update of the state, so that no later proof unfolds a record update; and how the
coming answers look after each update. -/

namespace Sys2Proof.Machine

variable (s : State)

/-! ### setRegs -/

@[simp] theorem setRegs_cfg (r : Regs) : (setRegs r s).cfg = s.cfg := rfl
@[simp] theorem setRegs_regs (r : Regs) : (setRegs r s).regs = r := rfl
@[simp] theorem setRegs_chip (r : Regs) : (setRegs r s).chip = s.chip := rfl
@[simp] theorem setRegs_gen (r : Regs) : (setRegs r s).gen = s.gen := rfl
@[simp] theorem setRegs_buf (r : Regs) : (setRegs r s).buf = s.buf := rfl
@[simp] theorem setRegs_temp (r : Regs) : (setRegs r s).temp = s.temp := rfl
@[simp] theorem setRegs_requests (r : Regs) : (setRegs r s).requests = s.requests := rfl
@[simp] theorem setRegs_answers (r : Regs) : (setRegs r s).answers = s.answers := rfl
@[simp] theorem setRegs_draws (r : Regs) : (setRegs r s).draws = s.draws := rfl
@[simp] theorem setRegs_reply (r : Regs) : (setRegs r s).reply = s.reply := rfl
@[simp] theorem setRegs_issuer (r : Regs) : (setRegs r s).issuer = s.issuer := rfl
@[simp] theorem setRegs_history (r : Regs) : (setRegs r s).history = s.history := rfl
@[simp] theorem setRegs_upcoming (r : Regs) (j : Nat) : upcoming (setRegs r s) j = upcoming s j := rfl

/-! ### setChip -/

@[simp] theorem setChip_cfg (c : Chip) : (setChip c s).cfg = s.cfg := rfl
@[simp] theorem setChip_regs (c : Chip) : (setChip c s).regs = s.regs := rfl
@[simp] theorem setChip_chip (c : Chip) : (setChip c s).chip = c := rfl
@[simp] theorem setChip_gen (c : Chip) : (setChip c s).gen = s.gen := rfl
@[simp] theorem setChip_buf (c : Chip) : (setChip c s).buf = s.buf := rfl
@[simp] theorem setChip_temp (c : Chip) : (setChip c s).temp = s.temp := rfl
@[simp] theorem setChip_requests (c : Chip) : (setChip c s).requests = s.requests := rfl
@[simp] theorem setChip_answers (c : Chip) : (setChip c s).answers = s.answers := rfl
@[simp] theorem setChip_draws (c : Chip) : (setChip c s).draws = s.draws := rfl
@[simp] theorem setChip_reply (c : Chip) : (setChip c s).reply = s.reply := rfl
@[simp] theorem setChip_issuer (c : Chip) : (setChip c s).issuer = s.issuer := rfl
@[simp] theorem setChip_history (c : Chip) : (setChip c s).history = s.history := rfl
@[simp] theorem setChip_upcoming (c : Chip) (j : Nat) : upcoming (setChip c s) j = upcoming s j := rfl

/-! ### setGen -/

@[simp] theorem setGen_cfg (g : ClockGen) : (setGen g s).cfg = s.cfg := rfl
@[simp] theorem setGen_regs (g : ClockGen) : (setGen g s).regs = s.regs := rfl
@[simp] theorem setGen_chip (g : ClockGen) : (setGen g s).chip = s.chip := rfl
@[simp] theorem setGen_gen (g : ClockGen) : (setGen g s).gen = g := rfl
@[simp] theorem setGen_buf (g : ClockGen) : (setGen g s).buf = s.buf := rfl
@[simp] theorem setGen_temp (g : ClockGen) : (setGen g s).temp = s.temp := rfl
@[simp] theorem setGen_requests (g : ClockGen) : (setGen g s).requests = s.requests := rfl
@[simp] theorem setGen_answers (g : ClockGen) : (setGen g s).answers = s.answers := rfl
@[simp] theorem setGen_draws (g : ClockGen) : (setGen g s).draws = s.draws := rfl
@[simp] theorem setGen_reply (g : ClockGen) : (setGen g s).reply = s.reply := rfl
@[simp] theorem setGen_issuer (g : ClockGen) : (setGen g s).issuer = s.issuer := rfl
@[simp] theorem setGen_history (g : ClockGen) : (setGen g s).history = s.history := rfl
@[simp] theorem setGen_upcoming (g : ClockGen) (j : Nat) : upcoming (setGen g s) j = upcoming s j := rfl

/-! ### setReply -/

@[simp] theorem setReply_cfg (r : Reply) : (setReply r s).cfg = s.cfg := rfl
@[simp] theorem setReply_regs (r : Reply) : (setReply r s).regs = s.regs := rfl
@[simp] theorem setReply_chip (r : Reply) : (setReply r s).chip = s.chip := rfl
@[simp] theorem setReply_gen (r : Reply) : (setReply r s).gen = s.gen := rfl
@[simp] theorem setReply_buf (r : Reply) : (setReply r s).buf = s.buf := rfl
@[simp] theorem setReply_temp (r : Reply) : (setReply r s).temp = s.temp := rfl
@[simp] theorem setReply_requests (r : Reply) : (setReply r s).requests = s.requests := rfl
@[simp] theorem setReply_answers (r : Reply) : (setReply r s).answers = s.answers := rfl
@[simp] theorem setReply_draws (r : Reply) : (setReply r s).draws = s.draws := rfl
@[simp] theorem setReply_reply (r : Reply) : (setReply r s).reply = r := rfl
@[simp] theorem setReply_issuer (r : Reply) : (setReply r s).issuer = s.issuer := rfl
@[simp] theorem setReply_history (r : Reply) : (setReply r s).history = s.history := rfl
@[simp] theorem setReply_upcoming (r : Reply) (j : Nat) : upcoming (setReply r s) j = upcoming s j := rfl

/-! ### issueAs -/

@[simp] theorem issueAs_cfg (i : Issuer) : (issueAs i s).cfg = s.cfg := rfl
@[simp] theorem issueAs_regs (i : Issuer) : (issueAs i s).regs = s.regs := rfl
@[simp] theorem issueAs_chip (i : Issuer) : (issueAs i s).chip = s.chip := rfl
@[simp] theorem issueAs_gen (i : Issuer) : (issueAs i s).gen = s.gen := rfl
@[simp] theorem issueAs_buf (i : Issuer) : (issueAs i s).buf = s.buf := rfl
@[simp] theorem issueAs_temp (i : Issuer) : (issueAs i s).temp = s.temp := rfl
@[simp] theorem issueAs_requests (i : Issuer) : (issueAs i s).requests = s.requests := rfl
@[simp] theorem issueAs_answers (i : Issuer) : (issueAs i s).answers = s.answers := rfl
@[simp] theorem issueAs_draws (i : Issuer) : (issueAs i s).draws = s.draws := rfl
@[simp] theorem issueAs_reply (i : Issuer) : (issueAs i s).reply = s.reply := rfl
@[simp] theorem issueAs_issuer (i : Issuer) : (issueAs i s).issuer = i := rfl
@[simp] theorem issueAs_history (i : Issuer) : (issueAs i s).history = s.history := rfl
@[simp] theorem issueAs_upcoming (i : Issuer) (j : Nat) : upcoming (issueAs i s) j = upcoming s j := rfl

/-! ### emit -/

@[simp] theorem emit_cfg (e : EventKind) : (emit e s).cfg = s.cfg := rfl
@[simp] theorem emit_regs (e : EventKind) : (emit e s).regs = s.regs := rfl
@[simp] theorem emit_chip (e : EventKind) : (emit e s).chip = s.chip := rfl
@[simp] theorem emit_gen (e : EventKind) : (emit e s).gen = s.gen := rfl
@[simp] theorem emit_buf (e : EventKind) : (emit e s).buf = s.buf := rfl
@[simp] theorem emit_temp (e : EventKind) : (emit e s).temp = s.temp := rfl
@[simp] theorem emit_requests (e : EventKind) : (emit e s).requests = s.requests := rfl
@[simp] theorem emit_answers (e : EventKind) : (emit e s).answers = s.answers := rfl
@[simp] theorem emit_draws (e : EventKind) : (emit e s).draws = s.draws := rfl
@[simp] theorem emit_reply (e : EventKind) : (emit e s).reply = s.reply := rfl
@[simp] theorem emit_issuer (e : EventKind) : (emit e s).issuer = s.issuer := rfl
@[simp] theorem emit_history (e : EventKind) : (emit e s).history = s.history ++ [⟨s.issuer, e⟩] := rfl
@[simp] theorem emit_upcoming (e : EventKind) (j : Nat) : upcoming (emit e s) j = upcoming s j := rfl

/-! ### setStatus -/

@[simp] theorem setStatus_cfg (v : Status) : (setStatus v s).cfg = s.cfg := rfl
@[simp] theorem setStatus_regs (v : Status) : (setStatus v s).regs = { s.regs with status := v } := rfl
@[simp] theorem setStatus_chip (v : Status) : (setStatus v s).chip = s.chip := rfl
@[simp] theorem setStatus_gen (v : Status) : (setStatus v s).gen = s.gen := rfl
@[simp] theorem setStatus_buf (v : Status) : (setStatus v s).buf = s.buf := rfl
@[simp] theorem setStatus_temp (v : Status) : (setStatus v s).temp = s.temp := rfl
@[simp] theorem setStatus_requests (v : Status) : (setStatus v s).requests = s.requests := rfl
@[simp] theorem setStatus_answers (v : Status) : (setStatus v s).answers = s.answers := rfl
@[simp] theorem setStatus_draws (v : Status) : (setStatus v s).draws = s.draws := rfl
@[simp] theorem setStatus_reply (v : Status) : (setStatus v s).reply = s.reply := rfl
@[simp] theorem setStatus_issuer (v : Status) : (setStatus v s).issuer = s.issuer := rfl
@[simp] theorem setStatus_history (v : Status) : (setStatus v s).history = s.history := rfl
@[simp] theorem setStatus_upcoming (v : Status) (j : Nat) : upcoming (setStatus v s) j = upcoming s j := rfl

/-! ### returnStatus -/

@[simp] theorem returnStatus_cfg : (returnStatus s).cfg = s.cfg := rfl
@[simp] theorem returnStatus_regs : (returnStatus s).regs = s.regs := rfl
@[simp] theorem returnStatus_chip : (returnStatus s).chip = s.chip := rfl
@[simp] theorem returnStatus_gen : (returnStatus s).gen = s.gen := rfl
@[simp] theorem returnStatus_buf : (returnStatus s).buf = s.buf := rfl
@[simp] theorem returnStatus_temp : (returnStatus s).temp = s.temp := rfl
@[simp] theorem returnStatus_requests : (returnStatus s).requests = s.requests := rfl
@[simp] theorem returnStatus_answers : (returnStatus s).answers = s.answers := rfl
@[simp] theorem returnStatus_draws : (returnStatus s).draws = s.draws := rfl
@[simp] theorem returnStatus_reply : (returnStatus s).reply = .status s.regs.status := rfl
@[simp] theorem returnStatus_issuer : (returnStatus s).issuer = s.issuer := rfl
@[simp] theorem returnStatus_history : (returnStatus s).history = s.history := rfl
@[simp] theorem returnStatus_upcoming (j : Nat) : upcoming (returnStatus s) j = upcoming s j := rfl

/-! ### drawn -/

@[simp] theorem drawn_cfg : (drawn s).cfg = s.cfg := rfl
@[simp] theorem drawn_regs : (drawn s).regs = s.regs := rfl
@[simp] theorem drawn_chip : (drawn s).chip = s.chip := rfl
@[simp] theorem drawn_gen : (drawn s).gen = s.gen := rfl
@[simp] theorem drawn_buf : (drawn s).buf = s.buf := rfl
@[simp] theorem drawn_temp : (drawn s).temp = s.temp := rfl
@[simp] theorem drawn_requests : (drawn s).requests = s.requests := rfl
@[simp] theorem drawn_answers : (drawn s).answers = s.answers.tail := rfl
@[simp] theorem drawn_draws : (drawn s).draws = s.draws + 1 := rfl
@[simp] theorem drawn_reply : (drawn s).reply = s.reply := rfl
@[simp] theorem drawn_issuer : (drawn s).issuer = s.issuer := rfl
@[simp] theorem drawn_history : (drawn s).history = s.history := rfl

/-! ### emitFrame -/

@[simp] theorem emitFrame_cfg (k : FrameKind) (a : Byte) (sent recv : List Byte) (ok : Bool) : (emitFrame k a sent recv ok s).cfg = s.cfg := rfl
@[simp] theorem emitFrame_regs (k : FrameKind) (a : Byte) (sent recv : List Byte) (ok : Bool) : (emitFrame k a sent recv ok s).regs = s.regs := rfl
@[simp] theorem emitFrame_chip (k : FrameKind) (a : Byte) (sent recv : List Byte) (ok : Bool) : (emitFrame k a sent recv ok s).chip = s.chip := rfl
@[simp] theorem emitFrame_gen (k : FrameKind) (a : Byte) (sent recv : List Byte) (ok : Bool) : (emitFrame k a sent recv ok s).gen = s.gen := rfl
@[simp] theorem emitFrame_buf (k : FrameKind) (a : Byte) (sent recv : List Byte) (ok : Bool) : (emitFrame k a sent recv ok s).buf = s.buf := rfl
@[simp] theorem emitFrame_temp (k : FrameKind) (a : Byte) (sent recv : List Byte) (ok : Bool) : (emitFrame k a sent recv ok s).temp = s.temp := rfl
@[simp] theorem emitFrame_requests (k : FrameKind) (a : Byte) (sent recv : List Byte) (ok : Bool) : (emitFrame k a sent recv ok s).requests = s.requests := rfl
@[simp] theorem emitFrame_answers (k : FrameKind) (a : Byte) (sent recv : List Byte) (ok : Bool) : (emitFrame k a sent recv ok s).answers = s.answers := rfl
@[simp] theorem emitFrame_draws (k : FrameKind) (a : Byte) (sent recv : List Byte) (ok : Bool) : (emitFrame k a sent recv ok s).draws = s.draws := rfl
@[simp] theorem emitFrame_reply (k : FrameKind) (a : Byte) (sent recv : List Byte) (ok : Bool) : (emitFrame k a sent recv ok s).reply = s.reply := rfl
@[simp] theorem emitFrame_issuer (k : FrameKind) (a : Byte) (sent recv : List Byte) (ok : Bool) : (emitFrame k a sent recv ok s).issuer = s.issuer := rfl
@[simp] theorem emitFrame_history (k : FrameKind) (a : Byte) (sent recv : List Byte) (ok : Bool) : (emitFrame k a sent recv ok s).history = s.history ++ [⟨s.issuer, .frame k s.cfg.busDevAddr a sent recv ok⟩] := rfl
@[simp] theorem emitFrame_upcoming (k : FrameKind) (a : Byte) (sent recv : List Byte) (ok : Bool) (j : Nat) : upcoming (emitFrame k a sent recv ok s) j = upcoming s j := rfl

/-! ### cgStop -/

@[simp] theorem cgStop_cfg : (cgStop s).cfg = s.cfg := rfl
@[simp] theorem cgStop_regs : (cgStop s).regs = s.regs := rfl
@[simp] theorem cgStop_chip : (cgStop s).chip = s.chip := rfl
@[simp] theorem cgStop_gen : (cgStop s).gen = { s.gen with running := false } := rfl
@[simp] theorem cgStop_buf : (cgStop s).buf = s.buf := rfl
@[simp] theorem cgStop_temp : (cgStop s).temp = s.temp := rfl
@[simp] theorem cgStop_requests : (cgStop s).requests = s.requests := rfl
@[simp] theorem cgStop_answers : (cgStop s).answers = s.answers := rfl
@[simp] theorem cgStop_draws : (cgStop s).draws = s.draws := rfl
@[simp] theorem cgStop_reply : (cgStop s).reply = s.reply := rfl
@[simp] theorem cgStop_issuer : (cgStop s).issuer = s.issuer := rfl
@[simp] theorem cgStop_history : (cgStop s).history = s.history ++ [⟨s.issuer, .cgStop⟩] := rfl
@[simp] theorem cgStop_upcoming (j : Nat) : upcoming (cgStop s) j = upcoming s j := rfl

/-! ### cgSetPsc -/

@[simp] theorem cgSetPsc_cfg (p : U16) : (cgSetPsc p s).cfg = s.cfg := rfl
@[simp] theorem cgSetPsc_regs (p : U16) : (cgSetPsc p s).regs = s.regs := rfl
@[simp] theorem cgSetPsc_chip (p : U16) : (cgSetPsc p s).chip = s.chip := rfl
@[simp] theorem cgSetPsc_gen (p : U16) : (cgSetPsc p s).gen = { s.gen with psc := p } := rfl
@[simp] theorem cgSetPsc_buf (p : U16) : (cgSetPsc p s).buf = s.buf := rfl
@[simp] theorem cgSetPsc_temp (p : U16) : (cgSetPsc p s).temp = s.temp := rfl
@[simp] theorem cgSetPsc_requests (p : U16) : (cgSetPsc p s).requests = s.requests := rfl
@[simp] theorem cgSetPsc_answers (p : U16) : (cgSetPsc p s).answers = s.answers := rfl
@[simp] theorem cgSetPsc_draws (p : U16) : (cgSetPsc p s).draws = s.draws := rfl
@[simp] theorem cgSetPsc_reply (p : U16) : (cgSetPsc p s).reply = s.reply := rfl
@[simp] theorem cgSetPsc_issuer (p : U16) : (cgSetPsc p s).issuer = s.issuer := rfl
@[simp] theorem cgSetPsc_history (p : U16) : (cgSetPsc p s).history = s.history ++ [⟨s.issuer, .cgSetPsc p⟩] := rfl
@[simp] theorem cgSetPsc_upcoming (p : U16) (j : Nat) : upcoming (cgSetPsc p s) j = upcoming s j := rfl

/-! ### cgStart -/

@[simp] theorem cgStart_cfg : (cgStart s).cfg = s.cfg := rfl
@[simp] theorem cgStart_regs : (cgStart s).regs = s.regs := rfl
@[simp] theorem cgStart_chip : (cgStart s).chip = s.chip := rfl
@[simp] theorem cgStart_gen : (cgStart s).gen = { s.gen with running := true } := rfl
@[simp] theorem cgStart_buf : (cgStart s).buf = s.buf := rfl
@[simp] theorem cgStart_temp : (cgStart s).temp = s.temp := rfl
@[simp] theorem cgStart_requests : (cgStart s).requests = s.requests := rfl
@[simp] theorem cgStart_answers : (cgStart s).answers = s.answers := rfl
@[simp] theorem cgStart_draws : (cgStart s).draws = s.draws := rfl
@[simp] theorem cgStart_reply : (cgStart s).reply = s.reply := rfl
@[simp] theorem cgStart_issuer : (cgStart s).issuer = s.issuer := rfl
@[simp] theorem cgStart_history : (cgStart s).history = s.history ++ [⟨s.issuer, .cgStart⟩] := rfl
@[simp] theorem cgStart_upcoming (j : Nat) : upcoming (cgStart s) j = upcoming s j := rfl

/-! ### writeSample -/

@[simp] theorem writeSample_cfg (ref : Handle) (i : U16) (rec : Sample) : (writeSample ref i rec s).cfg = s.cfg := rfl
@[simp] theorem writeSample_regs (ref : Handle) (i : U16) (rec : Sample) : (writeSample ref i rec s).regs = s.regs := rfl
@[simp] theorem writeSample_chip (ref : Handle) (i : U16) (rec : Sample) : (writeSample ref i rec s).chip = s.chip := rfl
@[simp] theorem writeSample_gen (ref : Handle) (i : U16) (rec : Sample) : (writeSample ref i rec s).gen = s.gen := rfl
@[simp] theorem writeSample_buf (ref : Handle) (i : U16) (rec : Sample) : (writeSample ref i rec s).buf = Memory.write s.buf (bufAddress ref i) rec := rfl
@[simp] theorem writeSample_temp (ref : Handle) (i : U16) (rec : Sample) : (writeSample ref i rec s).temp = s.temp := rfl
@[simp] theorem writeSample_requests (ref : Handle) (i : U16) (rec : Sample) : (writeSample ref i rec s).requests = s.requests := rfl
@[simp] theorem writeSample_answers (ref : Handle) (i : U16) (rec : Sample) : (writeSample ref i rec s).answers = s.answers := rfl
@[simp] theorem writeSample_draws (ref : Handle) (i : U16) (rec : Sample) : (writeSample ref i rec s).draws = s.draws := rfl
@[simp] theorem writeSample_reply (ref : Handle) (i : U16) (rec : Sample) : (writeSample ref i rec s).reply = s.reply := rfl
@[simp] theorem writeSample_issuer (ref : Handle) (i : U16) (rec : Sample) : (writeSample ref i rec s).issuer = s.issuer := rfl
@[simp] theorem writeSample_history (ref : Handle) (i : U16) (rec : Sample) : (writeSample ref i rec s).history = s.history ++ [⟨s.issuer, .bufWrite ref i rec⟩] := rfl
@[simp] theorem writeSample_upcoming (ref : Handle) (i : U16) (rec : Sample) (j : Nat) : upcoming (writeSample ref i rec s) j = upcoming s j := rfl

/-! ### writeTemp -/

@[simp] theorem writeTemp_cfg (ref : Handle) (t : U16) : (writeTemp ref t s).cfg = s.cfg := rfl
@[simp] theorem writeTemp_regs (ref : Handle) (t : U16) : (writeTemp ref t s).regs = s.regs := rfl
@[simp] theorem writeTemp_chip (ref : Handle) (t : U16) : (writeTemp ref t s).chip = s.chip := rfl
@[simp] theorem writeTemp_gen (ref : Handle) (t : U16) : (writeTemp ref t s).gen = s.gen := rfl
@[simp] theorem writeTemp_buf (ref : Handle) (t : U16) : (writeTemp ref t s).buf = s.buf := rfl
@[simp] theorem writeTemp_temp (ref : Handle) (t : U16) : (writeTemp ref t s).temp = Memory.write s.temp (tempAddress ref) t := rfl
@[simp] theorem writeTemp_requests (ref : Handle) (t : U16) : (writeTemp ref t s).requests = s.requests := rfl
@[simp] theorem writeTemp_answers (ref : Handle) (t : U16) : (writeTemp ref t s).answers = s.answers := rfl
@[simp] theorem writeTemp_draws (ref : Handle) (t : U16) : (writeTemp ref t s).draws = s.draws := rfl
@[simp] theorem writeTemp_reply (ref : Handle) (t : U16) : (writeTemp ref t s).reply = s.reply := rfl
@[simp] theorem writeTemp_issuer (ref : Handle) (t : U16) : (writeTemp ref t s).issuer = s.issuer := rfl
@[simp] theorem writeTemp_history (ref : Handle) (t : U16) : (writeTemp ref t s).history = s.history ++ [⟨s.issuer, .tempWrite ref t⟩] := rfl
@[simp] theorem writeTemp_upcoming (ref : Handle) (t : U16) (j : Nat) : upcoming (writeTemp ref t s) j = upcoming s j := rfl

/-! ### endStart -/

@[simp] theorem endStart_cfg (c : Cause) : (endStart c s).cfg = s.cfg := rfl
@[simp] theorem endStart_regs (c : Cause) : (endStart c s).regs = s.regs := rfl
@[simp] theorem endStart_chip (c : Cause) : (endStart c s).chip = s.chip := rfl
@[simp] theorem endStart_gen (c : Cause) : (endStart c s).gen = s.gen := rfl
@[simp] theorem endStart_buf (c : Cause) : (endStart c s).buf = s.buf := rfl
@[simp] theorem endStart_temp (c : Cause) : (endStart c s).temp = s.temp := rfl
@[simp] theorem endStart_requests (c : Cause) : (endStart c s).requests = s.requests := rfl
@[simp] theorem endStart_answers (c : Cause) : (endStart c s).answers = s.answers := rfl
@[simp] theorem endStart_draws (c : Cause) : (endStart c s).draws = s.draws := rfl
@[simp] theorem endStart_reply (c : Cause) : (endStart c s).reply = .code (resultOf c) := rfl
@[simp] theorem endStart_issuer (c : Cause) : (endStart c s).issuer = s.issuer := rfl
@[simp] theorem endStart_history (c : Cause) : (endStart c s).history = s.history ++ [⟨s.issuer, .ended (resultOf c) c⟩] := rfl
@[simp] theorem endStart_upcoming (c : Cause) (j : Nat) : upcoming (endStart c s) j = upcoming s j := rfl

/-! ### The coming answers -/

/-- After one answer is drawn the coming answers move up by one. -/
@[simp] theorem drawn_upcoming (j : Nat) : upcoming (drawn s) j = upcoming s (j + 1) := by
  simp only [upcoming, drawn, Nat.add_assoc, Nat.add_comm 1 j]
  cases s.answers <;> simp

/-- The answer the next frame draws is the first of the coming ones. -/
theorem nextAnswer_eq : nextAnswer s = upcoming s 0 := by
  unfold nextAnswer upcoming
  cases s.answers <;> simp

end Sys2Proof.Machine
end

