-- ==== Sys2Proof/Laws/Ops.lean ====
section
/-! SUPPORT. What each shared operation can do, said once: the frames, the transport operations, the control writes, SETCLK,
CHIP_RESET. Later proofs cite these lemmas and unfold nothing. -/

namespace Sys2Proof.Machine

/-! ### The chip -/

@[simp] theorem setPtr_received (a : Byte) (c : Chip) : (setPtr a c).received = c.received := rfl
@[simp] theorem setPtr_ptr (a : Byte) (c : Chip) : (setPtr a c).ptr = a := rfl
@[simp] theorem receiveAt_received (a v : Byte) (c : Chip) :
    (receiveAt a v c).received = Memory.write c.received a.toNat v := rfl
@[simp] theorem receiveAt_ptr (a v : Byte) (c : Chip) : (receiveAt a v c).ptr = c.ptr := rfl

/-- The canonical form of the chip's memory. -/
def Chip.Canonical (c : Chip) : Prop := Memory.wf c.received ∧ ∀ x ∈ c.received, x.1 < 2 ^ 8

theorem receiveAt_canonical (a v : Byte) {c : Chip} (h : c.Canonical) : (receiveAt a v c).Canonical :=
  ⟨Memory.wf_write h.1 _ _, Memory.bound_write h.2 a.isLt⟩

theorem receiveBlock_canonical (bs : List Byte) {c : Chip} (h : c.Canonical) : (receiveBlock bs c).Canonical := by
  induction bs generalizing c with
  | nil => exact h
  | cons b bs ih => exact ih (receiveAt_canonical c.ptr b h)

/-- What the chip has received for an address. -/
def Chip.byteAt (c : Chip) (x : Byte) : Option Byte := Memory.read c.received x.toNat

@[simp] theorem setPtr_byteAt (a : Byte) (c : Chip) (x : Byte) : (setPtr a c).byteAt x = c.byteAt x := rfl

theorem chipByte_eq (s : State) (x : Byte) : chipByte s x = s.chip.byteAt x := rfl

theorem receiveAt_byteAt (a v : Byte) (c : Chip) (x : Byte) :
    (receiveAt a v c).byteAt x = if x = a then some v else c.byteAt x := by
  by_cases h : x = a
  · subst h; simp [Chip.byteAt]
  · have : x.toNat ≠ a.toNat := fun e => h (BitVec.eq_of_toNat_eq e)
    simp [Chip.byteAt, h, Memory.read_write_other _ v this]

/-- The bytes of one block, its pointer at the start, say: at most `n` bytes from `p` on are new. -/
theorem receiveBlock_byteAt_other (bs : List Byte) (c : Chip) (x : Byte)
    (h : ∀ i : Nat, i < bs.length → x ≠ c.ptr + BitVec.ofNat 8 i) : (receiveBlock bs c).byteAt x = c.byteAt x := by
  induction bs generalizing c with
  | nil => rfl
  | cons b bs ih =>
    rw [receiveBlock, ih]
    · have h0 : x ≠ c.ptr := by simpa using h 0 (by simp)
      simp [receiveAt_byteAt, h0]
    · intro i hi
      have h1 := h (i + 1) (by simpa using hi)
      rw [setPtr_ptr, BitVec.add_assoc]
      rwa [show (1 : Byte) + BitVec.ofNat 8 i = BitVec.ofNat 8 (i + 1) by rw [BitVec.add_comm, BitVec.ofNat_add]; rfl]

@[simp] theorem receiveBlock_ptr (bs : List Byte) (c : Chip) :
    (receiveBlock bs c).ptr = c.ptr + BitVec.ofNat 8 bs.length := by
  induction bs generalizing c with
  | nil => simp [receiveBlock]
  | cons b bs ih =>
    rw [receiveBlock, ih, setPtr_ptr, BitVec.add_assoc, List.length_cons, Nat.add_comm, BitVec.ofNat_add]
    rfl

/-! ### What an operation on the bus does -/

/-- From `s` to `t` the bus alone was used: `n` frames recorded as `es`, bytes received only at addresses in `P`. -/
structure BusOnly (P : Byte → Prop) (n : Nat) (es : List EventKind) (s t : State) : Prop where
  cfg : t.cfg = s.cfg
  regs : t.regs = s.regs
  gen : t.gen = s.gen
  buf : t.buf = s.buf
  temp : t.temp = s.temp
  requests : t.requests = s.requests
  reply : t.reply = s.reply
  issuer : t.issuer = s.issuer
  answers : t.answers = s.answers.drop n
  draws : t.draws = s.draws + n
  history : t.history = s.history ++ es.map (Event.mk s.issuer)
  upcoming : ∀ j, upcoming t j = upcoming s (n + j)
  bytes : ∀ x, ¬ P x → t.chip.byteAt x = s.chip.byteAt x
  canonical : s.chip.Canonical → t.chip.Canonical

/-- Uses of the bus follow one another. -/
theorem BusOnly.trans {P Q : Byte → Prop} {n m : Nat} {es fs : List EventKind} {s t u : State}
    (h : BusOnly P n es s t) (k : BusOnly Q m fs t u) : BusOnly (fun x => P x ∨ Q x) (n + m) (es ++ fs) s u where
  cfg := k.cfg.trans h.cfg
  regs := k.regs.trans h.regs
  gen := k.gen.trans h.gen
  buf := k.buf.trans h.buf
  temp := k.temp.trans h.temp
  requests := k.requests.trans h.requests
  reply := k.reply.trans h.reply
  issuer := k.issuer.trans h.issuer
  answers := by rw [k.answers, h.answers, List.drop_drop]
  draws := by rw [k.draws, h.draws, Nat.add_assoc]
  history := by rw [k.history, h.history, h.issuer, List.map_append, List.append_assoc]
  upcoming j := by rw [k.upcoming, h.upcoming, Nat.add_assoc]
  bytes x hx := (k.bytes x fun q => hx (.inr q)).trans (h.bytes x fun p => hx (.inl p))
  canonical c := k.canonical (h.canonical c)

/-- The addresses may be said more loosely. -/
theorem BusOnly.weaken {P Q : Byte → Prop} {n : Nat} {es : List EventKind} {s t : State} (h : BusOnly P n es s t)
    (w : ∀ x, P x → Q x) : BusOnly Q n es s t :=
  { h with bytes := fun x hx => h.bytes x fun p => hx (w x p) }

/-- One frame: draw an answer, replace the chip, record the frame. -/
theorem frame_busOnly {P : Byte → Prop} (s : State) (c : Chip) (k : FrameKind) (a : Byte) (sent received : List Byte)
    (ok : Bool) (hb : ∀ x, ¬ P x → c.byteAt x = s.chip.byteAt x) (hc : s.chip.Canonical → c.Canonical) :
    BusOnly P 1 [.frame k s.cfg.busDevAddr a sent received ok] s
      (emitFrame k a sent received ok (setChip c (drawn s))) where
  cfg := rfl
  regs := rfl
  gen := rfl
  buf := rfl
  temp := rfl
  requests := rfl
  reply := rfl
  issuer := rfl
  answers := by simp
  draws := rfl
  history := rfl
  upcoming j := by simp [Nat.add_comm]
  bytes := hb
  canonical := hc

/-! ### The five frames -/

@[simp] theorem framePointerSet_fst (a : Byte) (s : State) : (framePointerSet a s).1 = (upcoming s 0).ok := by
  simp [framePointerSet, nextAnswer_eq]

theorem framePointerSet_chip (a : Byte) (s : State) : (framePointerSet a s).2.chip =
    if (upcoming s 0).ok || decide (0 < (upcoming s 0).taken) then setPtr a s.chip else s.chip := by
  simp [framePointerSet, nextAnswer_eq]

/-- The pointer-set frame changes no byte. -/
theorem framePointerSet_busOnly (a : Byte) (s : State) : BusOnly (fun _ => False) 1
    [.frame .pointerSet s.cfg.busDevAddr a [s.cfg.cmdSetPointer, a] [] (upcoming s 0).ok] s
    (framePointerSet a s).2 := by
  rw [framePointerSet, ← nextAnswer_eq]
  apply frame_busOnly
  · intro x _; split <;> rfl
  · intro h; split <;> exact h

@[simp] theorem frameByteWrite_fst (a v : Byte) (s : State) : (frameByteWrite a v s).1 = (upcoming s 0).ok := by
  simp [frameByteWrite, nextAnswer_eq]

theorem frameByteWrite_chip (a v : Byte) (s : State) : (frameByteWrite a v s).2.chip =
    setPtr (upcoming s 0).ptr (if (upcoming s 0).ok || decide (0 < (upcoming s 0).taken) then receiveAt a v s.chip
      else s.chip) := by
  simp [frameByteWrite, nextAnswer_eq]

/-- The byte-write frame changes at most the byte at its address. -/
theorem frameByteWrite_busOnly (a v : Byte) (s : State) : BusOnly (fun x => x = a) 1
    [.frame .byteWrite s.cfg.busDevAddr a [a, v] [] (upcoming s 0).ok] s (frameByteWrite a v s).2 := by
  rw [frameByteWrite, ← nextAnswer_eq]
  apply frame_busOnly
  · intro x hx; split <;> simp [receiveAt_byteAt, hx]
  · intro h
    have h1 := receiveAt_canonical a v h
    split <;> assumption

@[simp] theorem frameBlockWrite_fst (a : Byte) (bs : List Byte) (s : State) :
    (frameBlockWrite a bs s).1 = (upcoming s 0).ok := by
  simp [frameBlockWrite, nextAnswer_eq]

theorem frameBlockWrite_chip (a : Byte) (bs : List Byte) (s : State) : (frameBlockWrite a bs s).2.chip =
    receiveBlock (if (upcoming s 0).ok then bs else bs.take (upcoming s 0).taken) s.chip := by
  simp [frameBlockWrite, nextAnswer_eq]

/-- The block-write frame changes at most the bytes from the pointer on. -/
theorem frameBlockWrite_busOnly (a : Byte) (bs : List Byte) (s : State) :
    BusOnly (fun x => ∃ i, i < bs.length ∧ x = s.chip.ptr + BitVec.ofNat 8 i) 1
      [.frame .blockWrite s.cfg.busDevAddr a (s.cfg.cmdBlockWrite :: BitVec.ofNat 8 bs.length :: bs) []
        (upcoming s 0).ok] s (frameBlockWrite a bs s).2 := by
  rw [frameBlockWrite, ← nextAnswer_eq]
  apply frame_busOnly
  · intro x hx
    apply receiveBlock_byteAt_other
    intro i hi e
    refine hx ⟨i, lt_of_lt_of_le hi ?_, e⟩
    split
    · exact le_rfl
    · rw [List.length_take]; exact min_le_right _ _
  · exact receiveBlock_canonical _

@[simp] theorem frameByteReceive_fst (a : Byte) (s : State) : (frameByteReceive a s).1 =
    if (upcoming s 0).ok then some (upcoming s 0).b0 else none := by
  simp [frameByteReceive, nextAnswer_eq]

/-- The byte-receive frame changes no byte. -/
theorem frameByteReceive_busOnly (a : Byte) (s : State) : BusOnly (fun _ => False) 1
    [.frame .byteReceive s.cfg.busDevAddr a [] (if (upcoming s 0).ok then [(upcoming s 0).b0] else [])
      (upcoming s 0).ok] s (frameByteReceive a s).2 := by
  rw [frameByteReceive, ← nextAnswer_eq]
  exact frame_busOnly _ _ _ _ _ _ _ (fun _ _ => rfl) id

@[simp] theorem frameBlockRead_fst (a : Byte) (s : State) : (frameBlockRead a s).1 =
    if (upcoming s 0).ok then some ((upcoming s 0).b0 ++ (upcoming s 0).b1) else none := by
  simp [frameBlockRead, nextAnswer_eq]

theorem frameBlockRead_chip (a : Byte) (s : State) : (frameBlockRead a s).2.chip =
    setPtr (s.chip.ptr + BitVec.ofNat 8 (if (upcoming s 0).ok then 2 else min (upcoming s 0).taken 2)) s.chip := by
  simp [frameBlockRead, nextAnswer_eq]

/-- The block-read frame changes no byte. -/
theorem frameBlockRead_busOnly (a : Byte) (s : State) : BusOnly (fun _ => False) 1
    [.frame .blockRead s.cfg.busDevAddr a [s.cfg.cmdBlockRead, 2#8]
      (if (upcoming s 0).ok then [(upcoming s 0).b0, (upcoming s 0).b1] else []) (upcoming s 0).ok] s
    (frameBlockRead a s).2 := by
  rw [frameBlockRead, ← nextAnswer_eq]
  exact frame_busOnly _ _ _ _ _ _ _ (fun _ _ => rfl) id

/-! ### The two-phase operations: the second frame only after the first was OK (40 rule R123) -/

/-- Going on after OK. -/
theorem andThen_true (f : State → Bool × State) {r : Bool × State} (h : r.1 = true) : andThen f r = f r.2 := by
  simp [andThen, h]

/-- Stopping after FAIL. -/
theorem andThen_false (f : State → Bool × State) {r : Bool × State} (h : r.1 = false) : andThen f r = r := by
  simp [andThen, h]

theorem andThenRead_true {α : Type} (f : State → Option α × State) {r : Bool × State} (h : r.1 = true) :
    andThenRead f r = f r.2 := by
  simp [andThenRead, h]

theorem andThenRead_false {α : Type} (f : State → Option α × State) {r : Bool × State} (h : r.1 = false) :
    andThenRead f r = (none, r.2) := by
  simp [andThenRead, h]

/-- The pointer after a pointer set that was OK. -/
theorem setAddr_ptr {a : Byte} {s : State} (h : (upcoming s 0).ok = true) : (setAddr a s).2.chip.ptr = a := by
  simp [setAddr, framePointerSet_chip, h]

/-- A two-phase block write of one to three bytes. -/
theorem blockWrite_ok (a : Byte) (bs : List Byte) {s : State} (h : (upcoming s 0).ok = true) :
    (andThen (frameBlockWrite a bs) (setAddr a s)).1 = (upcoming s 1).ok ∧
    BusOnly (fun x => ∃ i, i < bs.length ∧ x = a + BitVec.ofNat 8 i) 2
      [.frame .pointerSet s.cfg.busDevAddr a [s.cfg.cmdSetPointer, a] [] true,
       .frame .blockWrite s.cfg.busDevAddr a (s.cfg.cmdBlockWrite :: BitVec.ofNat 8 bs.length :: bs) []
        (upcoming s 1).ok] s (andThen (frameBlockWrite a bs) (setAddr a s)).2 := by
  have p := framePointerSet_busOnly a s
  have q := frameBlockWrite_busOnly a bs (framePointerSet a s).2
  have e : (framePointerSet a s).2.chip.ptr = a := setAddr_ptr h
  rw [andThen_true _ (by simpa [setAddr] using h)]
  rw [e, p.upcoming 0, p.cfg] at q
  rw [h] at p
  refine ⟨by simp [setAddr, p.upcoming], (p.trans q).weaken ?_⟩
  rintro x (hx | hx)
  · exact hx.elim
  · exact hx

/-- The chip after a two-phase block write whose pointer set was OK. -/
theorem blockWrite_chip (a : Byte) (bs : List Byte) {s : State} (h : (upcoming s 0).ok = true) :
    (andThen (frameBlockWrite a bs) (setAddr a s)).2.chip =
      receiveBlock (if (upcoming s 1).ok then bs else bs.take (upcoming s 1).taken) (setPtr a s.chip) := by
  rw [andThen_true _ (by simpa [setAddr] using h), frameBlockWrite_chip]
  simp [setAddr, (framePointerSet_busOnly a s).upcoming, framePointerSet_chip, h]

/-- A two-phase operation whose pointer set fails: one frame, nothing further. -/
theorem blockWrite_fail (a : Byte) (bs : List Byte) {s : State} (h : (upcoming s 0).ok = false) :
    andThen (frameBlockWrite a bs) (setAddr a s) = (false, (framePointerSet a s).2) := by
  have e : (setAddr a s).1 = false := by simpa [setAddr] using h
  rw [andThen_false _ e]
  exact Prod.ext e rfl

/-- READ8 when the pointer set was OK. -/
theorem read8_ok (a : Byte) {s : State} (h : (upcoming s 0).ok = true) :
    (read8 a s).1 = (if (upcoming s 1).ok then some (upcoming s 1).b0 else none) ∧
    BusOnly (fun _ => False) 2
      [.frame .pointerSet s.cfg.busDevAddr a [s.cfg.cmdSetPointer, a] [] true,
       .frame .byteReceive s.cfg.busDevAddr a [] (if (upcoming s 1).ok then [(upcoming s 1).b0] else [])
        (upcoming s 1).ok] s (read8 a s).2 := by
  have p := framePointerSet_busOnly a s
  have q := frameByteReceive_busOnly a (framePointerSet a s).2
  rw [read8, andThenRead_true _ (by simpa [setAddr] using h)]
  rw [p.upcoming 0, p.cfg] at q
  rw [h] at p
  exact ⟨by simp [setAddr, p.upcoming], (p.trans q).weaken (by simp)⟩

/-- READ8 when the pointer set failed. -/
theorem read8_fail (a : Byte) {s : State} (h : (upcoming s 0).ok = false) :
    read8 a s = (none, (framePointerSet a s).2) := by
  rw [read8, andThenRead_false _ (by simpa [setAddr] using h)]
  rfl

/-- READ16 when the pointer set was OK. -/
theorem read16_ok (a : Byte) {s : State} (h : (upcoming s 0).ok = true) :
    (read16 a s).1 = (if (upcoming s 1).ok then some ((upcoming s 1).b0 ++ (upcoming s 1).b1) else none) ∧
    BusOnly (fun _ => False) 2
      [.frame .pointerSet s.cfg.busDevAddr a [s.cfg.cmdSetPointer, a] [] true,
       .frame .blockRead s.cfg.busDevAddr a [s.cfg.cmdBlockRead, 2#8]
        (if (upcoming s 1).ok then [(upcoming s 1).b0, (upcoming s 1).b1] else []) (upcoming s 1).ok] s
      (read16 a s).2 := by
  have p := framePointerSet_busOnly a s
  have q := frameBlockRead_busOnly a (framePointerSet a s).2
  rw [read16, andThenRead_true _ (by simpa [setAddr] using h)]
  rw [p.upcoming 0, p.cfg] at q
  rw [h] at p
  exact ⟨by simp [setAddr, p.upcoming], (p.trans q).weaken (by simp)⟩

/-- The pointer after READ16 with both frames OK. -/
theorem read16_ptr (a : Byte) {s : State} (h0 : (upcoming s 0).ok = true) (h1 : (upcoming s 1).ok = true) :
    (read16 a s).2.chip.ptr = a + 2 := by
  rw [read16, andThenRead_true _ (by simpa [setAddr] using h0), frameBlockRead_chip]
  simp [setAddr, (framePointerSet_busOnly a s).upcoming, framePointerSet_chip, h0, h1]

/-- READ16 when the pointer set failed. -/
theorem read16_fail (a : Byte) {s : State} (h : (upcoming s 0).ok = false) :
    read16 a s = (none, (framePointerSet a s).2) := by
  rw [read16, andThenRead_false _ (by simpa [setAddr] using h)]
  rfl

/-! ### The control writes (42 rules R165, R167) -/

/-- A control-byte command: one byte write to the control register's high byte. -/
theorem ccWrite_spec (fc : BitVec 4) (s : State) : (ccWrite fc s).1 = (upcoming s 0).ok ∧
    BusOnly (fun x => x = s.cfg.aCtrlHi) 1
      [.frame .byteWrite s.cfg.busDevAddr s.cfg.aCtrlHi
        [s.cfg.aCtrlHi, ctrlHiByte s.cfg fc s.regs.rgVr s.regs.rgPga] [] (upcoming s 0).ok] s (ccWrite fc s).2 :=
  ⟨by simp [ccWrite, write8], frameByteWrite_busOnly _ _ _⟩

/-- CL_WRITE: one byte write to the control register's low byte. -/
theorem clWrite_spec (r : BitVec 1) (s : State) : (clWrite r s).1 = (upcoming s 0).ok ∧
    BusOnly (fun x => x = s.cfg.aCtrlLo) 1
      [.frame .byteWrite s.cfg.busDevAddr s.cfg.aCtrlLo
        [s.cfg.aCtrlLo, ctrlLoByte s.cfg r (clkSourceBit s.cfg s.regs.clkSel)] [] (upcoming s 0).ok] s
      (clWrite r s).2 :=
  ⟨by simp [clWrite, write8], frameByteWrite_busOnly _ _ _⟩

/-- CHIP_RESET: three byte writes, all issued (42 rule R173). -/
theorem chipReset_busOnly (s : State) : BusOnly (fun x => x = s.cfg.aCtrlHi ∨ x = s.cfg.aCtrlLo) 3
    [.frame .byteWrite s.cfg.busDevAddr s.cfg.aCtrlHi
      [s.cfg.aCtrlHi, ctrlHiByte s.cfg s.cfg.fcStandby s.regs.rgVr s.regs.rgPga] [] (upcoming s 0).ok,
     .frame .byteWrite s.cfg.busDevAddr s.cfg.aCtrlLo
      [s.cfg.aCtrlLo, ctrlLoByte s.cfg 1 (clkSourceBit s.cfg s.regs.clkSel)] [] (upcoming s 1).ok,
     .frame .byteWrite s.cfg.busDevAddr s.cfg.aCtrlLo
      [s.cfg.aCtrlLo, ctrlLoByte s.cfg 0 (clkSourceBit s.cfg s.regs.clkSel)] [] (upcoming s 2).ok] s
    (chipReset s) := by
  have p := (ccWrite_spec s.cfg.fcStandby s).2
  have q := (clWrite_spec 1 (ccWrite s.cfg.fcStandby s).2).2
  rw [p.upcoming, p.cfg, p.regs] at q
  have pq := p.trans q
  have r := (clWrite_spec 0 (clWrite 1 (ccWrite s.cfg.fcStandby s).2).2).2
  rw [pq.upcoming, pq.cfg, pq.regs] at r
  refine (pq.trans r).weaken ?_
  rintro x ((h | h) | h) <;> simp [h]

/-! ### The callers' memory -/

/-- Two records lie at one address only if handle and number agree. -/
theorem bufAddress_inj {ref ref' : Handle} {i i' : U16} (h : bufAddress ref i = bufAddress ref' i') :
    ref = ref' ∧ i = i' := by
  have e (r : Handle) (k : U16) : (r ++ k).toNat = r.toNat * 2 ^ 16 + k.toNat := by
    rw [BitVec.toNat_append, ← Nat.shiftLeft_add_eq_or_of_lt k.isLt, Nat.shiftLeft_eq]
  rw [bufAddress, bufAddress, e, e] at h
  have := i.isLt
  have := i'.isLt
  exact ⟨BitVec.eq_of_toNat_eq (by omega), BitVec.eq_of_toNat_eq (by omega)⟩

theorem sampleAt_writeSample (ref : Handle) (i : U16) (rec : Sample) (s : State) (ref' : Handle) (i' : U16) :
    sampleAt (writeSample ref i rec s) ref' i' = if ref' = ref ∧ i' = i then some rec else sampleAt s ref' i' := by
  split
  · next h => obtain ⟨rfl, rfl⟩ := h; simp [sampleAt]
  · next h =>
    simp only [sampleAt, writeSample_buf]
    exact Memory.read_write_other _ _ fun e => h (bufAddress_inj e)

theorem tempAt_writeTemp (ref : Handle) (t : U16) (s : State) (ref' : Handle) :
    tempAt (writeTemp ref t s) ref' = if ref' = ref then some t else tempAt s ref' := by
  split
  · next h => subst h; simp [tempAt]
  · next h =>
    simp only [tempAt, writeTemp_temp]
    exact Memory.read_write_other _ _ fun e => h (BitVec.eq_of_toNat_eq e)

/-- The canonical form of the buffers is kept by a sample write, that of the cells by a temperature write. -/
theorem writeSample_canonical (ref : Handle) (i : U16) (rec : Sample) {s : State} (h : Memory.wf s.buf)
    (b : ∀ x ∈ s.buf, x.1 < 2 ^ 48) :
    Memory.wf (writeSample ref i rec s).buf ∧ ∀ x ∈ (writeSample ref i rec s).buf, x.1 < 2 ^ 48 :=
  ⟨Memory.wf_write h _ _, Memory.bound_write b (ref ++ i).isLt⟩

theorem writeTemp_canonical (ref : Handle) (t : U16) {s : State} (h : Memory.wf s.temp)
    (b : ∀ x ∈ s.temp, x.1 < 2 ^ 32) :
    Memory.wf (writeTemp ref t s).temp ∧ ∀ x ∈ (writeTemp ref t s).temp, x.1 < 2 ^ 32 :=
  ⟨Memory.wf_write h _ _, Memory.bound_write b ref.isLt⟩

end Sys2Proof.Machine
end

