-- ==== Sys2Proof/Laws/Tick.lean ====
section
/-! SUPPORT. What each part of TICK, of PROGRAM_SWEEP and of the start operations does, case by case, and what a poll can give. -/

namespace Sys2Proof.Machine

variable {s : State}

/-! ### PROGRAM_SWEEP (42 rules R175, R176) -/

theorem programSweep_none {f : U32} {n : U16} (h : selClk s.cfg f = none) :
    programSweep f n s = .error .noClockForFrequency := by
  simp [programSweep, h]

theorem programSweep_unfit {f : U32} {n : U16} {k : ClkIdx} (h : selClk s.cfg f = some k)
    (g : (fits24 f.toNat (rateOf s.cfg k) && fits24 s.regs.swInc.toNat (rateOf s.cfg k)) = false) :
    programSweep f n s = .error .frequencyNotRepresentable := by
  simp only [programSweep, h, g, Bool.false_eq_true, if_false]

theorem programSweep_ok {f : U32} {n : U16} {k : ClkIdx} (h : selClk s.cfg f = some k)
    (g : (fits24 f.toNat (rateOf s.cfg k) && fits24 s.regs.swInc.toNat (rateOf s.cfg k)) = true) :
    programSweep f n s = .ok (programSteps k f n s) := by
  simp only [programSweep, h, g, if_true]

/-! ### A poll (43 rules R205, R206; 44 rule R232): the three ways a read can go -/

/-- READ8 either gives the chip's byte over two frames or gives nothing; it writes no byte of the chip. -/
theorem read8_result (a : Byte) (s : State) :
    ((upcoming s 0).ok = true ∧ (upcoming s 1).ok = true ∧ (read8 a s).1 = some (upcoming s 1).b0 ∧
      BusOnly (fun _ => False) 2 [.frame .pointerSet s.cfg.busDevAddr a [s.cfg.cmdSetPointer, a] [] true,
        .frame .byteReceive s.cfg.busDevAddr a [] [(upcoming s 1).b0] true] s (read8 a s).2) ∨
    ((upcoming s 0).ok && (upcoming s 1).ok) = false ∧ (read8 a s).1 = none ∧
      ∃ n es, n ≤ 2 ∧ BusOnly (fun _ => False) n es s (read8 a s).2 := by
  cases h : (upcoming s 0).ok
  · rw [read8_fail a h]
    exact .inr ⟨rfl, rfl, 1, _, by decide, framePointerSet_busOnly a s⟩
  · obtain ⟨r, p⟩ := read8_ok a h
    cases h1 : (upcoming s 1).ok <;> rw [h1] at r p
    · exact .inr ⟨rfl, r, 2, _, le_rfl, p⟩
    · exact .inl ⟨rfl, rfl, r, p⟩

/-- READ16 either gives the chip's two bytes, the first one high, or gives nothing; it writes no byte of the chip. -/
theorem read16_result (a : Byte) (s : State) :
    ((upcoming s 0).ok = true ∧ (upcoming s 1).ok = true ∧
      (read16 a s).1 = some ((upcoming s 1).b0 ++ (upcoming s 1).b1) ∧
      BusOnly (fun _ => False) 2 [.frame .pointerSet s.cfg.busDevAddr a [s.cfg.cmdSetPointer, a] [] true,
        .frame .blockRead s.cfg.busDevAddr a [s.cfg.cmdBlockRead, 2#8] [(upcoming s 1).b0, (upcoming s 1).b1] true]
        s (read16 a s).2) ∨
    ((upcoming s 0).ok && (upcoming s 1).ok) = false ∧ (read16 a s).1 = none ∧
      ∃ n es, n ≤ 2 ∧ BusOnly (fun _ => False) n es s (read16 a s).2 := by
  cases h : (upcoming s 0).ok
  · rw [read16_fail a h]
    exact .inr ⟨rfl, rfl, 1, _, by decide, framePointerSet_busOnly a s⟩
  · obtain ⟨r, p⟩ := read16_ok a h
    cases h1 : (upcoming s 1).ok <;> rw [h1] at r p
    · exact .inr ⟨rfl, r, 2, _, le_rfl, p⟩
    · exact .inl ⟨rfl, rfl, r, p⟩

/-! ### The parts of TICK (43 rules R204 to R210) -/

theorem tickWait_idle (h : waitElapsed s.cfg s.regs = false) : tickWait s = s := by
  simp only [tickWait, h, Bool.false_eq_true, if_false]

theorem tickWait_start (h : waitElapsed s.cfg s.regs = true) :
    tickWait s = setRegs { (ccWrite s.cfg.fcStart s).2.regs with waitActive := false } (ccWrite s.cfg.fcStart s).2 := by
  simp only [tickWait, h, if_true]

theorem takeSample_repeat {st : Byte} {re im : U16} (h : s.regs.avgCnt + 1 < s.regs.swAvg) :
    takeSample st re im s = .ok (ccWrite s.cfg.fcRepeat (setRegs (accumulate re im s.regs) s)).2 :=
  if_pos h

theorem takeSample_complete {st : Byte} {re im : U16} (h : ¬ s.regs.avgCnt + 1 < s.regs.swAvg) :
    takeSample st re im s = finishPoint st (setRegs (accumulate re im s.regs) s) :=
  if_neg h

theorem finishPoint_overrun {st : Byte} (h : s.regs.swNinc < s.regs.point) :
    finishPoint st s = .error .bufferOverrun :=
  if_pos h

theorem finishPoint_store {st : Byte} (h : ¬ s.regs.swNinc < s.regs.point) :
    finishPoint st s = nextPoint st (setRegs (advancePoint s.regs)
      (writeSample s.regs.bufRef s.regs.point (pointRecord s.regs) s)) :=
  if_neg h

theorem nextPoint_done {st : Byte} (h : sweepDone st = true) : nextPoint st s = .ok (setStatus .finishImpedance s) := by
  simp only [nextPoint, h, if_true]

theorem nextPoint_change {st : Byte} (h : sweepDone st = false) (k : selClk s.cfg s.regs.freqCur ≠ some s.regs.clkSel) :
    nextPoint st s = (programSweep s.regs.freqCur (incrementsLeft s.regs) s).map Prod.snd := by
  simp only [nextPoint, h, Bool.false_eq_true, if_false, if_pos k]
  cases programSweep s.regs.freqCur (incrementsLeft s.regs) s <;> rfl

theorem nextPoint_increment {st : Byte} (h : sweepDone st = false)
    (k : selClk s.cfg s.regs.freqCur = some s.regs.clkSel) : nextPoint st s = .ok (ccWrite s.cfg.fcIncr s).2 := by
  simp only [nextPoint, h, Bool.false_eq_true, if_false, k, ne_eq, not_true_eq_false]

/-! ### TICK by state (43 rule R203) -/

@[simp] theorem countTick_cfg (s : State) : (countTick s).cfg = s.cfg := rfl
@[simp] theorem countTick_regs (s : State) : (countTick s).regs = { s.regs with tickCnt := s.regs.tickCnt + 1 } := rfl
@[simp] theorem countTick_upcoming (s : State) (j : Nat) : upcoming (countTick s) j = upcoming s j := rfl

theorem execTick_wait (h : s.regs.status = .measureImpedance) (w : s.regs.waitActive = true) :
    execTick s = .next (returnStatus (tickWait (countTick (issueAs .tick s)))) := by
  have e : (countTick (issueAs .tick s)).regs.status = .measureImpedance := h
  have f : (countTick (issueAs .tick s)).regs.waitActive = true := w
  simp only [execTick, e, f, if_true, endTick]

theorem execTick_poll (h : s.regs.status = .measureImpedance) (w : s.regs.waitActive = false) :
    execTick s = endTick (tickPoll (countTick (issueAs .tick s))) := by
  have e : (countTick (issueAs .tick s)).regs.status = .measureImpedance := h
  have f : (countTick (issueAs .tick s)).regs.waitActive = false := w
  simp only [execTick, e, f, Bool.false_eq_true, if_false]

theorem execTick_temp (h : s.regs.status = .measureTemp) :
    execTick s = .next (returnStatus (tickTemp (countTick (issueAs .tick s)))) := by
  have e : (countTick (issueAs .tick s)).regs.status = .measureTemp := h
  simp only [execTick, e, endTick]

theorem execTick_quiet (h : isBusyStatus s.regs.status = false) :
    execTick s = .next (returnStatus (countTick (issueAs .tick s))) := by
  have e : (countTick (issueAs .tick s)).regs.status = s.regs.status := rfl
  unfold execTick
  cases k : s.regs.status <;> rw [k] at h e <;> simp only [e, endTick] <;> exact absurd h (by decide)

/-! ### The start operations (43 rule R196, 44 rule R231) -/

theorem execMeasureImpedance_refused {sw : SweepSpec} {rg : RangeSettings} {b : Handle} {c : Cause}
    (h : validateSweep s sw = c) (n : c ≠ .none) :
    execMeasureImpedance sw rg b s = .next (endStart c (issueAs .measureImpedance s)) := by
  have e : validateSweep (issueAs .measureImpedance s) sw = c := h
  unfold execMeasureImpedance
  cases c <;> first | exact absurd rfl n | simp only [e]

theorem execMeasureImpedance_runs {sw : SweepSpec} {rg : RangeSettings} {b : Handle}
    (h : validateSweep s sw = .none) :
    execMeasureImpedance sw rg b s = startSweep sw rg b (issueAs .measureImpedance s) := by
  have e : validateSweep (issueAs .measureImpedance s) sw = .none := h
  simp only [execMeasureImpedance, e]

end Sys2Proof.Machine
end

