-- ==== Sys2Proof/Tests/Slice0.lean ====
section
/-! SUPPORT. Tests: ill-formed operations are refused, every word of the encoding decodes, one step of each operation against
the vectors of spec/95_test_vectors.md, and a witness for the hypotheses of each statement. -/

namespace Sys2Proof.Tests

open Sys2Proof.Machine Sys2Proof.Claims

/-! ### Helpers -/

/-- A frame answered OK with these bytes. -/
def ok (b0 b1 : Byte) : Answer := ⟨true, 0, b0, b1, 0⟩

/-- A frame that fails before any byte effect. -/
def fail : Answer := ⟨false, 0, 0, 0, 0⟩

/-- A frame that fails after one byte effect. -/
def failAfterOne : Answer := ⟨false, 1, 0, 0, 0⟩

/-- `n` frames answered OK. -/
def oks (n : Nat) : List Answer := List.replicate n (ok 0 0)

/-- The six frames that read a status byte and two samples. -/
def sample (st r1 r0 i1 i0 : Byte) : List Answer := [ok 0 0, ok st 0, ok 0 0, ok r1 r0, ok 0 0, ok i1 i0]

/-- The machine after reset, in STATUS `v`, with these answers to come. -/
def inStatus (v : Status) (as : List Answer) : State :=
  { State.reset with regs := { State.reset.regs with status := v }, answers := as }

/-- Program P1 of 95 after the wait: 10000 Hz, 1000 Hz, two increments, one sample a point, selectors vr 0 and pga 1. -/
def sweepRegs : Regs :=
  { State.reset.regs with
    status := .measureImpedance, swStart := 10000, swInc := 1000, swNinc := 2, swSettle := 10, swAvg := 1
    rgPga := 1, bufRef := 5, freqCur := 10000, clkSel := 2, cgRun := true, cgPsc := 7, tickCnt := 5 }

/-- A running sweep with these registers. -/
def sweeping (r : Regs) (as : List Answer) : State :=
  { State.reset with regs := r, gen := ⟨true, 7⟩, answers := as }

/-- Did the machine go on to a state with this property? -/
def went (o : Host.Outcome State Fault Refusal) (p : State → Bool) : Bool :=
  match o with
  | .next t => p t
  | .fault _ => false
  | .refused _ => false

/-- Did the machine stop with this fault? -/
def faulted (o : Host.Outcome State Fault Refusal) (f : Fault) : Bool :=
  match o with
  | .next _ => false
  | .fault g => g == f
  | .refused _ => false

/-- The bytes sent by the frames of a history, and its other events left out. -/
def wire (h : List Event) : List (List Byte) :=
  h.filterMap fun e => match e.what with
    | .frame _ _ _ sent _ _ => some sent
    | .cgStop => none
    | .cgSetPsc _ => none
    | .cgStart => none
    | .bufWrite _ _ _ => none
    | .tempWrite _ _ => none
    | .ended _ _ => none

/-- The sweep of program P1. -/
def sweep1 : SweepSpec := ⟨10000, 1000, 2, 10, .x1, 1⟩

/-- The range of program P1. -/
def range1 : RangeSettings := ⟨1, 0, 7, 8⟩

/-! ### Ill-formed operations (00 rule R6 (i)): a byte write to an address that is a command byte has no word -/

theorem test_illformed_write8_set_pointer : ¬ (Instr.write8 0xB0 1).Wf Config.suggested := fun h => h.1 rfl
theorem test_illformed_write8_block_write : ¬ (Instr.write8 0xA0 1).Wf Config.suggested := fun h => h.2.1 rfl
theorem test_illformed_write8_block_read : ¬ (Instr.write8 0xA1 1).Wf Config.suggested := fun h => h.2.2 rfl
theorem test_wellformed_write8 : (Instr.write8 0x80 0xB1).Wf Config.suggested := ⟨by decide, by decide, by decide⟩

/-! ### Words written out from 30 rules R92, R96, R97, R98 and from 95 sections 2.1 and 2.4 -/

theorem test_decode_host :
    decode Config.suggested (.hostCmd 0 HostOperands.zero) = .ok .init ∧
    decode Config.suggested (.hostCmd 1 HostOperands.zero) = .ok .reset ∧
    decode Config.suggested (.hostCmd 2 HostOperands.zero) = .ok .isBusy ∧
    decode Config.suggested (.hostCmd 3 ⟨sweep1, range1, 5, 6⟩) = .ok (.measureImpedance sweep1 range1 5) ∧
    decode Config.suggested (.hostCmd 4 HostOperands.zero) = .ok .getSweepCount ∧
    decode Config.suggested (.hostCmd 5 ⟨sweep1, range1, 5, 6⟩) = .ok (.measureTemperature 6) ∧
    decode Config.suggested (.hostCmd 6 HostOperands.zero) = .ok .calibrate ∧
    decode Config.suggested .tickReq = .ok .tick := ⟨rfl, rfl, rfl, rfl, rfl, rfl, rfl, rfl⟩

theorem test_decode_host_reserved :
    decode Config.suggested (.hostCmd 8 HostOperands.zero) = .error (.reservedCommand 8) ∧
    decode Config.suggested (.hostCmd 15 HostOperands.zero) = .error (.reservedCommand 15) := ⟨rfl, rfl⟩

theorem test_decode_xport :
    decode Config.suggested (.xport [⟨[0xB0, 0x8F], 0⟩]) = .ok (.setAddr 0x8F) ∧
    decode Config.suggested (.xport [⟨[0x81, 0x00], 0⟩]) = .ok (.write8 0x81 0x00) ∧
    decode Config.suggested (.xport [⟨[0xB0, 0x8A], 0⟩, ⟨[0xA0, 0x02, 0x07, 0xFF], 0⟩]) = .ok (.write16 0x8A 0x07FF) ∧
    decode Config.suggested (.xport [⟨[0xB0, 0x82], 0⟩, ⟨[0xA0, 0x03, 0x27, 0x10, 0x00], 0⟩]) =
      .ok (.write24 0x82 0x271000) ∧
    decode Config.suggested (.xport [⟨[0xB0, 0x8F], 0⟩, ⟨[], 1⟩]) = .ok (.read8 0x8F) ∧
    decode Config.suggested (.xport [⟨[0xB0, 0x94], 0⟩, ⟨[0xA1, 0x02], 2⟩]) = .ok (.read16 0x94) :=
  ⟨rfl, rfl, rfl, rfl, rfl, rfl⟩

theorem test_decode_xport_refused :
    decode Config.suggested (.xport [⟨[0xA0, 0x8F], 0⟩]) = .error .wrongCommandByte ∧
    decode Config.suggested (.xport [⟨[0xB0, 0x8A], 0⟩, ⟨[0xA0, 0x03, 0x07, 0xFF], 0⟩]) = .error .wrongByteCount ∧
    decode Config.suggested (.xport []) = .error .notATransportOperation := ⟨rfl, rfl, rfl⟩

theorem test_decode_ctrlhi :
    decode Config.suggested (.ctrlHi 0b00010000) = .ok (.ccInit 0 0) ∧
    decode Config.suggested (.ctrlHi 0b00100001) = .ok (.ccStart 0 1) ∧
    decode Config.suggested (.ctrlHi 0b00110100) = .ok (.ccIncr 2 0) ∧
    decode Config.suggested (.ctrlHi 0b01000111) = .ok (.ccRepeat 3 1) ∧
    decode Config.suggested (.ctrlHi 0b10010100) = .ok (.ccMtemp 2 0) ∧
    decode Config.suggested (.ctrlHi 0b10100001) = .ok (.ccPdown 0 1) ∧
    decode Config.suggested (.ctrlHi 0b10110111) = .ok (.ccStandby 3 1) := ⟨rfl, rfl, rfl, rfl, rfl, rfl, rfl⟩

theorem test_decode_ctrllo :
    decode Config.suggested (.ctrlLo 0b00001000) = .ok (.clWrite 0 1) ∧
    decode Config.suggested (.ctrlLo 0b00010000) = .ok (.clWrite 1 0) := ⟨rfl, rfl⟩

theorem test_decode_control_refused :
    decode Config.suggested (.ctrlHi 0b00011000) = .error .unusedBitSet ∧
    decode Config.suggested (.ctrlHi 0b11110000) = .error (.unknownFunctionCode 15) ∧
    decode Config.suggested (.ctrlLo 0b00100000) = .error .unusedBitSet := ⟨rfl, rfl, rfl⟩

theorem test_table_words :
    decodeTableWord 8 0x2 = some .isBusy ∧ decodeTableWord 8 0x7 = some .tick ∧
    decodeTableWord 16 0xB08F = some (.setAddr 0x8F) ∧ decodeTableWord 16 0x80B1 = some (.write8 0x80 0xB1) ∧
    decodeTableWord 48 0xB088A002000A = some (.write16 0x88 0x000A) ∧
    decodeTableWord 56 0xB082A003271000 = some (.write24 0x82 0x271000) ∧
    decodeTableWord 32 0xB094A102 = some (.read16 0x94) ∧
    decodeTableWord 8 0x45 = some (.ccRepeat 2 1) ∧ decodeTableWord 8 0x18 = some (.clWrite 1 1) := by decide

theorem test_table_word_runs :
    went (step (State.withFetchWord { State.reset with answers := oks 2 } 32 0xB094A102))
      (fun t => t.reply == .word (some 0) && t.requests == []) = true := by decide

/-! ### One step of each operation (95 sections 2 and 3) -/

/-- 95 section 3, P1: INIT sends `80 B0`, `81 10`, `81 00`. -/
theorem test_init : went (exec .init { State.reset with answers := oks 3 })
    (fun t => wire t.history == [[0x80, 0xB0], [0x81, 0x10], [0x81, 0x00]] && t.regs.status == .idle) = true := by decide

/-- 95 section 2.9: CHIP_RESET with `RG_PGA = 1`, `CLKSEL = 2`, all three issued when the first fails. -/
theorem test_reset : went (exec .reset (sweeping sweepRegs (fail :: oks 2)))
    (fun t => wire t.history == [[0x80, 0xB1], [0x81, 0x18], [0x81, 0x08]] && t.reply == .status .idle &&
      t.regs.cgRun && t.regs.freqCur == 10000) = true := by decide

theorem test_is_busy : went (exec .isBusy (inStatus .measureTemp [])) (fun t => t.reply == .flag true) = true := by
  decide

theorem test_get_sweep_count : went (exec .getSweepCount (sweeping { sweepRegs with point := 3 } []))
    (fun t => t.reply == .count 3) = true := by decide

/-- 95 section 3, P1: the frames of MEASURE_IMPEDANCE. -/
theorem test_measure_impedance : went (exec (.measureImpedance sweep1 range1 5) (inStatus .idle (oks 11)))
    (fun t => wire t.history ==
      [[0x80, 0xB1], [0x81, 0x08], [0xB0, 0x82], [0xA0, 3, 0x27, 0x10, 0x00], [0xB0, 0x85],
       [0xA0, 3, 0x03, 0xE8, 0x00], [0xB0, 0x88], [0xA0, 2, 0x00, 0x02], [0xB0, 0x8A], [0xA0, 2, 0x00, 0x0A],
       [0x80, 0x11]] && t.reply == .code .ok && t.regs.waitActive && t.regs.cgPsc == 7) = true := by decide

/-- 95 section 3, P4: the second block write fails. -/
theorem test_measure_impedance_fail :
    went (exec (.measureImpedance sweep1 range1 5) (inStatus .idle (oks 5 ++ [fail])))
      (fun t => t.reply == .code .error && t.regs.status == .idle && t.regs.clkSel == 2 && t.regs.swNinc == 2 &&
        t.draws == 6) = true := by decide

/-- 93 U5: result Error, no state change, no frame; 30 rule R92, the code 6. -/
theorem test_calibrate :
    went (step (present (.hostCmd 6 HostOperands.zero) (inStatus .measureTemp [])))
      (fun t => t.reply == .code .error && t.regs == (inStatus .measureTemp []).regs && wire t.history == [] &&
        t.history == [⟨.calibrate, .ended .error .calibrationNotModelled⟩]) = true := by decide

/-- 95 section 3, P6: `80 90`. -/
theorem test_measure_temperature : went (exec (.measureTemperature 6) (inStatus .idle (oks 1)))
    (fun t => wire t.history == [[0x80, 0x90]] && t.regs.status == .measureTemp && t.regs.tempRef == 6) = true := by
  decide

/-- 95 section 3, P1, tick 7: a point is stored, `80 31` follows. -/
theorem test_tick_point : went (exec .tick (sweeping sweepRegs (sample 0x02 0x00 0x64 0xFF 0xCE ++ oks 1)))
    (fun t => sampleAt t 5 0 == some ⟨10000, 0x0064, 0xFFCE⟩ && t.regs.freqCur == 11000 && t.regs.point == 1 &&
      (wire t.history).getLast? == some [0x80, 0x31]) = true := by decide

/-- 95 section 3, P2, tick 8: the truncated means of -11 and 302 over 3 are -3 and 100. -/
theorem test_tick_mean :
    went (exec .tick (sweeping { sweepRegs with swAvg := 3, avgCnt := 2, sumR := -15, sumI := 201 }
      (sample 0x06 0x00 0x04 0x00 0x65)))
      (fun t => sampleAt t 5 0 == some ⟨10000, 0xFFFD, 100⟩ && t.reply == .status .finishImpedance) = true := by decide

theorem test_set_addr : went (exec (.setAddr 0x8F) { State.reset with answers := oks 1 })
    (fun t => t.chip.ptr == 0x8F && wire t.history == [[0xB0, 0x8F]]) = true := by decide

theorem test_write8 : went (exec (.write8 0x80 0xB1) { State.reset with answers := oks 1 })
    (fun t => chipByte t 0x80 == some 0xB1 && wire t.history == [[0x80, 0xB1]]) = true := by decide

theorem test_write16 : went (exec (.write16 0x88 0x000A) { State.reset with answers := oks 2 })
    (fun t => chipByte t 0x88 == some 0x00 && chipByte t 0x89 == some 0x0A &&
      wire t.history == [[0xB0, 0x88], [0xA0, 0x02, 0x00, 0x0A]]) = true := by decide

/-- 95 section 2.1: after a failed second frame a prefix has arrived. -/
theorem test_write16_prefix : went (exec (.write16 0x88 0x0B0A) { State.reset with answers := [ok 0 0, failAfterOne] })
    (fun t => chipByte t 0x88 == some 0x0B && chipByte t 0x89 == none && t.reply == .verdict false) = true := by decide

theorem test_write24 : went (exec (.write24 0x82 0x271000) { State.reset with answers := oks 2 })
    (fun t => wire t.history == [[0xB0, 0x82], [0xA0, 0x03, 0x27, 0x10, 0x00]] && t.chip.ptr == 0x85) = true := by decide

theorem test_read8 : went (exec (.read8 0x8F) { State.reset with answers := [ok 0 0, ok 0x02 0] })
    (fun t => t.reply == .byte (some 0x02)) = true := by decide

theorem test_read16 : went (exec (.read16 0x94) { State.reset with answers := [ok 0 0, ok 0xFF 0xF9] })
    (fun t => t.reply == .word (some 0xFFF9) && t.chip.ptr == 0x96) = true := by decide

theorem test_read16_fail : went (exec (.read16 0x94) { State.reset with answers := [ok 0 0, fail] })
    (fun t => t.reply == .word none) = true := by decide

/-- 95 section 2.4, column `VR = 0`, `PGA = 1`. -/
theorem test_control_bytes :
    let sent := fun i => went (exec i (sweeping sweepRegs (oks 1)))
    sent (.ccInit 0 1) (fun t => wire t.history == [[0x80, 0x11]]) = true ∧
    sent (.ccStart 0 1) (fun t => wire t.history == [[0x80, 0x21]]) = true ∧
    sent (.ccIncr 0 1) (fun t => wire t.history == [[0x80, 0x31]]) = true ∧
    sent (.ccRepeat 0 1) (fun t => wire t.history == [[0x80, 0x41]]) = true ∧
    sent (.ccMtemp 0 1) (fun t => wire t.history == [[0x80, 0x91]]) = true ∧
    sent (.ccPdown 0 1) (fun t => wire t.history == [[0x80, 0xA1]]) = true ∧
    sent (.ccStandby 0 1) (fun t => wire t.history == [[0x80, 0xB1]]) = true ∧
    sent (.clWrite 1 1) (fun t => wire t.history == [[0x81, 0x18]]) = true := by decide

/-- 95 section 2.2. -/
theorem test_frequency_codes :
    freq2reg 30000 16776000 = 0x0EA645 ∧ fits24 524249 16776000 = true ∧ fits24 524250 16776000 = false ∧
    reg2freq 0x0EA645 16776000 = 30000 := by decide

/-- 95 sections 2.5 and 2.8. -/
theorem test_formats :
    settle16 Config.suggested .x4 511 = 0x07FF ∧ settle16 Config.suggested .x2 15 = 0x020F ∧ ninc16 511 = 0x01FF ∧
    decodeTemp 0x2000 = -8192 ∧ decodeTemp 0xFFE0 = -32 ∧ decodeTemp 0xC320 = 800 := by decide

/-! ### Witnesses: states and operands that meet the hypotheses of the statements -/

/-- DecodeEncodeRoundTrip, at an address beside a command byte. -/
theorem test_witness_round_trip :
    Config.suggested.Wf ∧ (Instr.write8 0xB1 0xFF).Wf Config.suggested ∧ (Instr.write24 0xFF 0xFFFFFF).Wf Config.suggested :=
  ⟨by decide, ⟨by decide, by decide, by decide⟩, trivial⟩

/-- DecodedBusWordIsItsEncoding. -/
theorem test_witness_bus_word :
    (∀ code ops, PortWord.ctrlLo 0x18 ≠ .hostCmd code ops) ∧ decode Config.suggested (.ctrlLo 0x18) = .ok (.clWrite 1 1) :=
  ⟨fun _ _ h => PortWord.noConfusion h, rfl⟩

/-- ReservedCodeIsAnsweredWithError and the second clause of StatusAndResultCodes, at both ends of the reserved range. -/
theorem test_witness_reserved :
    (present (.hostCmd 8 HostOperands.zero) State.reset).requests = [.hostCmd 8 HostOperands.zero] ∧ 8 ≤ (8#4).toNat ∧
    (present (.hostCmd 15 HostOperands.zero) State.reset).requests = [.hostCmd 15 HostOperands.zero] ∧
    8 ≤ (15#4).toNat := by decide

/-- StepRunsTheDecodedOperation, both clauses. -/
theorem test_witness_step :
    (present .tickReq State.reset).requests = [.tickReq] ∧
    decode (present .tickReq State.reset).cfg .tickReq = .ok .tick ∧ State.reset.requests = [] := ⟨rfl, rfl, rfl⟩

/-- The verdicts that the clauses of the statements about one or two frames ask for. -/
theorem test_witness_verdicts :
    let w := fun as => verdict { State.reset with answers := as }
    w [ok 0 0] 0 = true ∧ w [fail] 0 = false ∧ (w [ok 0 0, ok 0 0] 0 = true ∧ w [ok 0 0, ok 0 0] 1 = true) ∧
    (w [ok 0 0, fail] 0 = true ∧ w [ok 0 0, fail] 1 = false) := by decide

/-- HighControlByteFields, LowControlByteFields, with the bit positions that are neither field. -/
theorem test_witness_positions :
    Config.suggested.WfPositions ∧
    (3 : Fin 4) ≠ Config.suggested.vrHi ∧ (3 : Fin 4) ≠ Config.suggested.vrLo ∧ (3 : Fin 4) ≠ Config.suggested.pgaBit ∧
    (7 : Fin 8) ≠ Config.suggested.rstBit ∧ (7 : Fin 8) ≠ Config.suggested.clkBit := by decide

/-- CountAndSettlingFormats, at the largest count; Freq2RegIsTheFloor and IncrementDriftIsBounded. -/
theorem test_witness_formats : (511#16).toNat ≤ 511 ∧ 0 < 16776000 ∧ 30000 ≤ 40000 ∧ 65536 ≤ 16776000 := by decide

/-- FrequencyRoundTrip, at the last frequency with a code and at zero. -/
theorem test_witness_codec_round_trip :
    0 < 16777216 ∧ 16777216 < 2 ^ 28 ∧ fits24 524287 16777216 = true ∧ fits24 0 16777216 = true := by decide

/-- ClockSelectionIsAStepFunction and RangeCheckMeaning, at the two sides of thresholds. -/
theorem test_witness_clocks :
    Config.suggested.WfClocks ∧ (9#32) ≤ 10#32 ∧ selClk Config.suggested 9 = none ∧ selClk Config.suggested 10 = some 0 ∧
    selClk Config.suggested 999 = some 0 ∧ selClk Config.suggested 1000 = some 1 ∧
    selClk Config.suggested 49999 = some 2 ∧ selClk Config.suggested 50000 = some 3 ∧
    (∀ k : ClkIdx, 0 < (Config.suggested.clkThr.get k).toNat) ∧ (2 : ClkIdx) ≠ 3 := by decide

/-- ProgramSweepFollowsItsPlan: the hypotheses, with a plan carried out whole, one cut at its first frame, and one cut later. -/
theorem test_witness_program_sweep :
    let w := fun as => sweeping sweepRegs as
    let e := fun as => runPlan (verdict (w as)) 0 (sweepPlan (w as) 2 10000 2)
    selClk (w []).cfg 10000 = some 2 ∧ fits24 (10000#32).toNat (rateOf (w []).cfg 2) = true ∧
    fits24 (w []).regs.swInc.toNat (rateOf (w []).cfg 2) = true ∧
    (e (oks 11)).2 = true ∧ (e [fail]).2 = false ∧ (e (oks 10 ++ [fail])).2 = false := by decide

/-- Fits24IffBelowRate, fourth clause: a programming that runs. -/
theorem test_witness_program_runs :
    programSweep 10000 2 (sweeping sweepRegs (oks 11)) = .ok (programSteps 2 10000 2 (sweeping sweepRegs (oks 11))) :=
  programSweep_ok (by decide) (by decide)

/-- ProgramSweepGuards: below the lowest threshold, and the first frequency with no code. -/
theorem test_witness_guards :
    selClk Config.suggested 9 = none ∧ selClk Config.suggested 524288 = some 3 ∧
    ¬ (32 * (524288#32).toNat < rateOf Config.suggested 3 ∧ 32 * (1000#32).toNat < rateOf Config.suggested 3) ∧
    0 < rateOf Config.suggested 3 := by decide

/-- InitEffect, last clause. -/
theorem test_witness_init :
    let s := { State.reset with answers := oks 3 }
    s.cfg.aCtrlHi ≠ s.cfg.aCtrlLo ∧ verdict s 0 = true ∧ verdict s 1 = true ∧ verdict s 2 = true := by decide

theorem ready_idle (as : List Answer) : Ready (inStatus .idle as) := ⟨fun h => Status.noConfusion (h : Status.idle = .uninit), rfl⟩

/-- FailedValidationChangesNothing: the two statuses; and in Idle each failing row of 95 section 2.6. -/
theorem test_witness_failed_validation :
    (inStatus .uninit []).regs.status = .uninit ∧ isBusyStatus (inStatus .measureTemp []).regs.status = true ∧
    Ready (inStatus .idle []) ∧
    ∀ sw ∈ [(⟨10000, 0, 2, 10, .x1, 1⟩ : SweepSpec), ⟨10000, 1000, 512, 10, .x1, 1⟩, ⟨9, 1000, 2, 10, .x1, 1⟩,
      ⟨4294967000, 1000, 2, 10, .x1, 1⟩, ⟨524288, 1, 0, 10, .x1, 1⟩, ⟨10, 2048, 1, 10, .x1, 1⟩,
      ⟨10000, 1000, 2, 512, .x1, 1⟩, ⟨10000, 1000, 2, 10, .x1, 0⟩],
      ∀ k, ¬ OperandsAdmissible Config.suggested sw k :=
  ⟨rfl, rfl, ready_idle [], by unfold OperandsAdmissible; decide⟩

/-- MeasureImpedanceStartsOrFails: the two rows of 95 section 2.6 with every field at an edge, and both outcomes. -/
theorem test_witness_measure_impedance :
    Ready (inStatus .idle []) ∧ OperandsAdmissible Config.suggested ⟨524287, 1, 0, 0, .x4, 65535⟩ 3 ∧
    OperandsAdmissible Config.suggested ⟨10, 2047, 511, 511, .x4, 1⟩ 0 ∧
    (let w := fun as => setRegs (captureOperands ⟨10, 2047, 511, 511, .x4, 1⟩ range1 5 State.reset.regs) (inStatus .idle as)
     let e := fun as => runPlan (verdict (inStatus .idle as)) 0 (sweepPlan (w as) 0 10 511)
     (e (oks 11)).2 = true ∧ (e [fail]).2 = false ∧ (e (oks 10 ++ [fail])).2 = false) :=
  ⟨ready_idle [], by unfold OperandsAdmissible; decide, by unfold OperandsAdmissible; decide, by decide⟩

/-- EveryOperationIsAnswered, CalibrateAnswersErrorAndEntersNoState. -/
theorem test_witness_answered :
    Instr.calibrate ≠ .tick ∧ State.reset.regs.status ≠ .calibrate ∧
    (inStatus .calibrate []).regs.status = .calibrate ∧
    went (exec .isBusy (inStatus .calibrate [])) (fun t => t.regs.status == .calibrate) = true ∧
    went (exec .tick (inStatus .finishCalib [])) (fun t => t.regs.status == .finishCalib) = true := by decide

/-- MeasureTemperatureOutcome: its three hypotheses and both verdicts. -/
theorem test_witness_measure_temperature :
    State.reset.regs.status = .uninit ∧ isBusyStatus (inStatus .measureImpedance []).regs.status = true ∧
    Ready (inStatus .idle (oks 1)) ∧ verdict (inStatus .idle (oks 1)) 0 = true ∧
    Ready (inStatus .idle [fail]) ∧ verdict (inStatus .idle [fail]) 0 = false :=
  ⟨rfl, rfl, ready_idle _, rfl, ready_idle _, rfl⟩

/-- TickOutsideBusyOnlyCounts. -/
theorem test_witness_tick_quiet : isBusyStatus State.reset.regs.status = false := by decide

/-- P1 while the wait runs, `d` ticks after it was armed at `w`. -/
def waiting (w d : U32) (as : List Answer) : State :=
  sweeping { sweepRegs with waitActive := true, waitStart := w, tickCnt := w + d } as

/-- TickWaitsForTheCapacitor: the last tick that waits and the first that starts, also across the wrap (95 section 2.7). -/
theorem test_witness_tick_wait :
    (waiting 0 3 []).regs.status = .measureImpedance ∧ (waiting 0 3 []).regs.waitActive = true ∧
    ((waiting 0 3 []).regs.tickCnt + 1 - (waiting 0 3 []).regs.waitStart).toNat ≤ (waiting 0 3 []).cfg.waitTicks ∧
    (waiting 0 4 []).cfg.waitTicks < ((waiting 0 4 []).regs.tickCnt + 1 - (waiting 0 4 []).regs.waitStart).toNat ∧
    (waiting 4294967294 4 []).cfg.waitTicks <
      ((waiting 4294967294 4 []).regs.tickCnt + 1 - (waiting 4294967294 4 []).regs.waitStart).toNat := by decide

/-- A sample is there to be read, when the status byte of `sample` has its data-valid bit. -/
theorem sampling_of (r : Regs) (st r1 r0 i1 i0 : Byte) (as : List Answer) (h1 : r.status = .measureImpedance)
    (h2 : r.waitActive = false) (h3 : dataValid st = true) : Sampling (sweeping r (sample st r1 r0 i1 i0 ++ as)) := by
  refine ⟨h1, h2, fun j hj => ?_, h3⟩
  match j, hj with
  | 0, _ => rfl
  | 1, _ => rfl
  | 2, _ => rfl
  | 3, _ => rfl
  | 4, _ => rfl
  | 5, _ => rfl

/-- TickWithoutSampleOnlyCounts: the data-valid bit clear, and a failed last read. -/
theorem test_witness_no_sample :
    sweepRegs.status = .measureImpedance ∧ sweepRegs.waitActive = false ∧
    ¬ SampleAvailable (sweeping sweepRegs (sample 0x05 0 0 0 0)) ∧
    ¬ SampleAvailable (sweeping sweepRegs ((sample 0x02 0 0 0 0).take 5 ++ [fail])) :=
  ⟨rfl, rfl, fun h => Bool.noConfusion (h.2 : false = true), fun h => Bool.noConfusion (h.1 5 (by decide) : false = true)⟩

/-- TickAccumulatesAndRepeats: one sample of two is missing. -/
theorem test_witness_accumulates :
    Sampling (sweeping { sweepRegs with swAvg := 2 } (sample 0x02 0 7 0 9 ++ oks 1)) ∧
    (0 : U16) + 1 < 2 := ⟨sampling_of _ _ _ _ _ _ _ rfl rfl rfl, by decide⟩

/-- A point that the coming sample completes. -/
theorem completes_of (r : Regs) (st : Byte) (as : List Answer) (h1 : r.status = .measureImpedance) (h2 : r.waitActive = false)
    (h3 : dataValid st = true) (h4 : ¬ (r.avgCnt + 1 < r.swAvg)) (h5 : r.point ≤ r.swNinc) :
    CompletesPoint (sweeping r (sample st 0 7 0 9 ++ as)) := ⟨sampling_of _ _ _ _ _ _ _ h1 h2 h3, h4, h5⟩

/-- TickFinishesTheSweep, at the last programmed point. -/
theorem test_witness_finishes :
    CompletesPoint (sweeping { sweepRegs with point := 2, freqCur := 12000 } (sample 0x06 0 7 0 9 ++ [])) ∧
    sweepDone 0x06 = true := ⟨completes_of _ _ _ rfl rfl rfl (by decide) (by decide), by decide⟩

/-- TickStoresAndIncrements: the next frequency stays in band 2. -/
theorem test_witness_increments :
    CompletesPoint (sweeping sweepRegs (sample 0x02 0 7 0 9 ++ oks 1)) ∧ sweepDone 0x02 = false ∧
    selClk Config.suggested (sweepRegs.freqCur + sweepRegs.swInc) = some sweepRegs.clkSel :=
  ⟨completes_of _ _ _ rfl rfl rfl (by decide) (by decide), by decide, by decide⟩

/-- P3 of 95 at its first point: the next frequency, 10000, opens band 2. -/
def crossing : Regs := { sweepRegs with swStart := 9000, freqCur := 9000, clkSel := 1, cgPsc := 31 }

/-- TickChangesTheClock: carried out whole, cut at once, cut later. -/
theorem test_witness_changes_clock :
    CompletesPoint (sweeping crossing (sample 0x02 0 7 0 9 ++ oks 11)) ∧ sweepDone 0x02 = false ∧
    selClk Config.suggested (crossing.freqCur + crossing.swInc) = some 2 ∧ (2 : ClkIdx) ≠ crossing.clkSel ∧
    fits24 (crossing.freqCur + crossing.swInc).toNat (rateOf Config.suggested 2) = true ∧
    fits24 crossing.swInc.toNat (rateOf Config.suggested 2) = true ∧
    (let w := fun as => sweeping crossing (sample 0x02 0 7 0 9 ++ as)
     let e := fun as => runPlan (verdict (w as)) 6 (sweepPlan (w as) 2 10000 1)
     (e (oks 11)).2 = true ∧ (e [fail]).2 = false ∧ (e [ok 0 0, fail]).2 = false) :=
  ⟨completes_of _ _ _ rfl rfl rfl (by decide) (by decide), by decide, by decide, by decide, by decide, by decide, by decide⟩

/-- TickFaultsWhereTheSourceIsSilent: the point after the last one; a frequency that wraps to 0; one above the range. -/
theorem test_witness_faults :
    Sampling (sweeping { sweepRegs with point := 3 } (sample 0x02 0 7 0 9 ++ [])) ∧ (2 : U16) < 3 ∧
    CompletesPoint (sweeping { sweepRegs with freqCur := 4294966296 } (sample 0x02 0 7 0 9 ++ [])) ∧
    selClk Config.suggested (4294966296 + 1000) = none ∧
    CompletesPoint (sweeping { sweepRegs with freqCur := 523288 } (sample 0x02 0 7 0 9 ++ [])) ∧
    selClk Config.suggested (523288 + 1000) = some 3 ∧ (3 : ClkIdx) ≠ sweepRegs.clkSel ∧
    (fits24 (523288 + 1000 : U32).toNat (rateOf Config.suggested 3) &&
      fits24 sweepRegs.swInc.toNat (rateOf Config.suggested 3)) = false :=
  ⟨sampling_of _ _ _ _ _ _ _ rfl rfl rfl, by decide, completes_of _ _ _ rfl rfl rfl (by decide) (by decide), by decide,
    completes_of _ _ _ rfl rfl rfl (by decide) (by decide), by decide, by decide, by decide⟩

/-- TickDeliversTheTemperature: a valid temperature, a clear bit (95 section 3, P6). -/
theorem test_witness_temperature :
    (inStatus .measureTemp []).regs.status = .measureTemp ∧
    TempAvailable (inStatus .measureTemp [ok 0 0, ok 0x01 0, ok 0 0, ok 0x3F 0xE0]) ∧
    ¬ TempAvailable (inStatus .measureTemp [ok 0 0, ok 0x02 0]) ∧ (1 : Handle) ≠ (inStatus .measureTemp []).regs.tempRef :=
  ⟨rfl, ⟨by unfold verdict; decide, by decide⟩, fun h => Bool.noConfusion (h.2 : false = true), by decide⟩

/-- StoredPointIsTheTruncatedMean: the three samples of 95 section 3, P2. -/
theorem test_witness_mean :
    let xs : List (U16 × U16) := [(0xFFF9, 0x64), (0xFFF8, 0x65), (0x0004, 0x65)]
    sweepRegs.sumR = 0 ∧ sweepRegs.sumI = 0 ∧ sweepRegs.avgCnt = 0 ∧ 0 < xs.length ∧ xs.length ≤ 65535 := by decide

/-- TickBusWorkIsBounded, OperationsWriteOnlyTheirRegisters, BlockMakesOnlyItsOwnFrames, PrescalerChangesOnlyWhileStopped:
an operation that answers a next state. -/
theorem test_witness_next : (∃ t, exec .tick State.reset = .next t) ∧ IsHostOperation .tick :=
  ⟨⟨_, rfl⟩, fun h => Issuer.noConfusion h⟩

/-- ControlStateChangesOnlyAsListed: a running sweep. -/
theorem test_witness_control : ControlInv sweepRegs ∧ ∃ t, exec .isBusy (sweeping sweepRegs []) = .next t :=
  ⟨⟨by decide, by decide, fun h => Bool.noConfusion (h : false = true)⟩, ⟨_, rfl⟩⟩

/-- ResetMeetsTheInvariant. -/
theorem test_witness_config : Config.suggested.Wf := by decide

/-- No record is counted at point 0. -/
theorem records_zero (s : State) (h : s.regs.point = 0) : RecordsInv s := by
  intro i hi
  rw [h] at hi
  exact absurd (BitVec.lt_def.1 hi) (Nat.not_lt_zero _)

/-- The invariant of a running sweep, from its parts. -/
theorem inv_sweeping (r : Regs) (as : List Answer) (h1 : r.status = .measureImpedance)
    (h2 : r.cgRun = Config.suggested.isExternal r.clkSel) (h3 : r.cgRun = true → r.cgPsc = 7)
    (h4 : SweepInv Config.suggested r) (h5 : RecordsInv (sweeping r as)) : Inv (sweeping r as) where
  config := test_witness_config
  memory := ⟨List.Pairwise.nil, fun _ h => absurd h List.not_mem_nil, List.Pairwise.nil,
    fun _ h => absurd h List.not_mem_nil, List.Pairwise.nil, fun _ h => absurd h List.not_mem_nil⟩
  control := ⟨fun h => Status.noConfusion (h1.symm.trans h), fun h => Status.noConfusion (h1.symm.trans h), fun _ => h1⟩
  clock := ⟨h2, fun h => ⟨rfl, (h3 h).symm⟩⟩
  sweep := fun _ => h4
  records := fun _ => h5

/-- StepKeepsTheInvariant: a running sweep meets the invariant, and a step of it goes on. -/
theorem test_witness_invariant :
    Inv (sweeping sweepRegs (sample 0x02 0 7 0 9 ++ oks 1)) ∧
    went (exec .tick (sweeping sweepRegs (sample 0x02 0 7 0 9 ++ oks 1))) (fun t => t.regs.point == 1) = true :=
  ⟨inv_sweeping _ _ rfl (by decide) (fun _ => rfl)
    ⟨by decide, by decide, by decide, by decide, by decide, by decide, by decide, by decide, by decide, by decide, by decide,
      fun _ => ⟨2, by decide, by decide⟩⟩ (records_zero _ rfl), by decide⟩

/-- TickFaultsOnlyPastTheSweepOrTheRange and FinishedSweepHoldsEveryPoint ask for a running sweep of `n` increments at its point 0. -/
def edge (start inc : U32) (n : U16) (k : ClkIdx) : Regs :=
  { sweepRegs with swStart := start, freqCur := start, swInc := inc, swNinc := n, clkSel := k, cgRun := k != 3 }

/-- FinishedSweepHoldsEveryPoint: one programmed point, reported complete. -/
theorem test_witness_finished :
    Inv (sweeping (edge 10000 1000 0 2) (sample 0x06 0 7 0 9)) ∧
    went (exec .tick (sweeping (edge 10000 1000 0 2) (sample 0x06 0 7 0 9)))
      (fun t => t.regs.status == .finishImpedance) = true ∧ (edge 10000 1000 0 2).point = (edge 10000 1000 0 2).swNinc :=
  ⟨inv_sweeping _ _ rfl (by decide) (fun _ => rfl)
    ⟨by decide, by decide, by decide, by decide, by decide, by decide, by decide, by decide, by decide, by decide, by decide,
      fun _ => ⟨2, by decide, by decide⟩⟩ (records_zero _ rfl), by decide, by decide⟩

/-- TickFaultsOnlyPastTheSweepOrTheRange: a frequency that wraps below every threshold after the last point. -/
theorem test_witness_fault_no_clock :
    Inv (sweeping (edge 4294960299 7000 0 3) (sample 0x02 0 7 0 9)) ∧
    faulted (exec .tick (sweeping (edge 4294960299 7000 0 3) (sample 0x02 0 7 0 9))) .noClockForFrequency = true :=
  ⟨inv_sweeping _ _ rfl (by decide) (fun h => Bool.noConfusion (h : false = true))
    ⟨by decide, by decide, by decide, by decide, by decide, by decide, by decide, by decide, by decide, by decide, by decide,
      fun _ => ⟨3, by decide, by decide⟩⟩ (records_zero _ rfl), by decide⟩

/-- TickFaultsOnlyPastTheSweepOrTheRange: after a failed clock change, a frequency without a code. -/
theorem test_witness_fault_not_representable :
    Inv (sweeping (edge 524200 1000 1 2) (sample 0x02 0 7 0 9)) ∧
    faulted (exec .tick (sweeping (edge 524200 1000 1 2) (sample 0x02 0 7 0 9))) .frequencyNotRepresentable = true :=
  ⟨inv_sweeping _ _ rfl (by decide) (fun _ => rfl)
    ⟨by decide, by decide, by decide, by decide, by decide, by decide, by decide, by decide, by decide, by decide, by decide,
      fun _ => ⟨3, by decide, by decide⟩⟩ (records_zero _ rfl), by decide⟩

/-- P8 (a) of 95 at its second point, the first one stored. -/
def overrun : State :=
  { sweeping { edge 10000 1000 0 2 with point := 1, freqCur := 11000 } (sample 0x02 0 1 0 1) with
    buf := [(327680, ⟨10000, 1, 1⟩)] }

/-- TickFaultsOnlyPastTheSweepOrTheRange: the point after the last programmed one. -/
theorem test_witness_fault_overrun : Inv overrun ∧ faulted (exec .tick overrun) .bufferOverrun = true where
  left :=
    { config := test_witness_config
      memory := ⟨List.Pairwise.nil, fun _ h => absurd h List.not_mem_nil, by decide, by decide, List.Pairwise.nil,
        fun _ h => absurd h List.not_mem_nil⟩
      control := ⟨by decide, by decide, fun _ => rfl⟩
      clock := ⟨by decide, fun _ => ⟨rfl, rfl⟩⟩
      sweep := fun _ => ⟨by decide, by decide, by decide, by decide, by decide, by decide, by decide, by decide, by decide,
        by decide, by decide, fun h => absurd h (by decide)⟩
      records := fun _ i hi => by
        have h0 : i = 0 := BitVec.eq_of_toNat_eq (Nat.lt_one_iff.1 (BitVec.lt_def.1 hi))
        subst h0
        exact ⟨⟨10000, 1, 1⟩, by decide, by decide⟩ }
  right := by decide

/-- StartSweepComesAfterTheWait: five ticks are waiting, the wait has just been armed. -/
theorem test_witness_start_sweep :
    let s := { waiting 4294967294 0 (oks 1) with requests := List.replicate 5 PortWord.tickReq }
    s.regs.status = .measureImpedance ∧ s.regs.waitActive = true ∧ s.regs.waitStart = s.regs.tickCnt ∧
    s.cfg.waitTicks < 2 ^ 31 ∧ s.requests = List.replicate (s.cfg.waitTicks + 1) PortWord.tickReq := by decide

end Sys2Proof.Tests
end

section
/-! PROOF. The bus operations without their particulars, and what each of the larger operations leaves in the
block's registers, said once: SETCLK, PROGRAM_SWEEP, the start operations and TICK. -/

namespace Sys2Proof.Machine

open Sys2Proof.Claims

/-! ### Using the bus, whatever was sent and answered -/

/-- From `s` to `t` the bus alone was used, whatever the addresses, the number of frames and the events. -/
def UsesBus (s t : State) : Prop := ∃ P n es, BusOnly P n es s t

theorem BusOnly.usesBus {P : Byte → Prop} {n : Nat} {es : List EventKind} {s t : State} (h : BusOnly P n es s t) :
    UsesBus s t := ⟨P, n, es, h⟩

theorem UsesBus.refl (s : State) : UsesBus s s :=
  ⟨fun _ => False, 0, [],
    { cfg := rfl, regs := rfl, gen := rfl, buf := rfl, temp := rfl, requests := rfl, reply := rfl, issuer := rfl
      answers := rfl, draws := rfl, history := (List.append_nil _).symm
      upcoming := fun j => by rw [Nat.zero_add]
      bytes := fun _ _ => rfl, canonical := id }⟩

theorem UsesBus.trans {s t u : State} (h : UsesBus s t) (k : UsesBus t u) : UsesBus s u := by
  obtain ⟨_, _, _, p⟩ := h
  obtain ⟨_, _, _, q⟩ := k
  exact (p.trans q).usesBus

theorem UsesBus.cfg {s t : State} (h : UsesBus s t) : t.cfg = s.cfg := by
  obtain ⟨_, _, _, p⟩ := h
  exact p.cfg

theorem UsesBus.regs {s t : State} (h : UsesBus s t) : t.regs = s.regs := by
  obtain ⟨_, _, _, p⟩ := h
  exact p.regs

/-- A further operation of a sequence that stops at the first FAIL. -/
theorem UsesBus.andThen {s : State} {r : Bool × State} {f : State → Bool × State} (h : UsesBus s r.2)
    (k : ∀ t, UsesBus t (f t).2) : UsesBus s (andThen f r).2 := by
  cases e : r.1
  · rwa [andThen_false f e]
  · rw [andThen_true f e]; exact h.trans (k r.2)

theorem setAddr_usesBus (a : Byte) (s : State) : UsesBus s (setAddr a s).2 := (framePointerSet_busOnly a s).usesBus

theorem write8_usesBus (a v : Byte) (s : State) : UsesBus s (write8 a v s).2 := (frameByteWrite_busOnly a v s).usesBus

theorem write16_usesBus (a : Byte) (v : U16) (s : State) : UsesBus s (write16 a v s).2 :=
  (setAddr_usesBus a s).andThen fun t => (frameBlockWrite_busOnly a _ t).usesBus

theorem write24_usesBus (a : Byte) (v : U24) (s : State) : UsesBus s (write24 a v s).2 :=
  (setAddr_usesBus a s).andThen fun t => (frameBlockWrite_busOnly a _ t).usesBus

theorem read8_usesBus (a : Byte) (s : State) : UsesBus s (read8 a s).2 := by
  obtain ⟨_, _, _, p⟩ | ⟨_, _, _, _, _, p⟩ := read8_result a s <;> exact p.usesBus

theorem read16_usesBus (a : Byte) (s : State) : UsesBus s (read16 a s).2 := by
  obtain ⟨_, _, _, p⟩ | ⟨_, _, _, _, _, p⟩ := read16_result a s <;> exact p.usesBus

theorem ccWrite_usesBus (fc : BitVec 4) (s : State) : UsesBus s (ccWrite fc s).2 := (ccWrite_spec fc s).2.usesBus

theorem clWrite_usesBus (r : BitVec 1) (s : State) : UsesBus s (clWrite r s).2 := (clWrite_spec r s).2.usesBus

theorem chipReset_usesBus (s : State) : UsesBus s (chipReset s) := (chipReset_busOnly s).usesBus

theorem pollSample_usesBus (s : State) : UsesBus s (pollSample s).2 := by
  have p := read8_usesBus s.cfg.aStatus s
  unfold pollSample
  generalize read8 s.cfg.aStatus s = r at p ⊢
  obtain ⟨_ | st, s1⟩ := r
  · exact p
  · dsimp only at p ⊢
    split
    · have q := read16_usesBus s1.cfg.aReal s1
      generalize read16 s1.cfg.aReal s1 = r at q ⊢
      obtain ⟨_ | re, s2⟩ := r
      · exact p.trans q
      · have q' := read16_usesBus s2.cfg.aImag s2
        dsimp only at q ⊢
        generalize read16 s2.cfg.aImag s2 = r at q' ⊢
        obtain ⟨_ | im, s3⟩ := r
        · exact (p.trans q).trans q'
        · exact (p.trans q).trans q'
    · exact p

theorem pollTemp_usesBus (s : State) : UsesBus s (pollTemp s).2 := by
  have p := read8_usesBus s.cfg.aStatus s
  unfold pollTemp
  generalize read8 s.cfg.aStatus s = r at p ⊢
  obtain ⟨_ | st, s1⟩ := r
  · exact p
  · dsimp only at p ⊢
    split
    · exact p.trans (read16_usesBus s1.cfg.aTemp s1)
    · exact p

/-! ### SETCLK (42 rule R163) -/

@[simp] theorem stopIfRunning_cfg (s : State) : (stopIfRunning s).cfg = s.cfg := by
  unfold stopIfRunning
  split <;> rfl

theorem stopIfRunning_regs (s : State) : (stopIfRunning s).regs = { s.regs with cgRun := false } := by
  unfold stopIfRunning
  split
  · rfl
  · next h => rw [← eq_false_of_ne_true h]

@[simp] theorem startExternal_cfg (k : ClkIdx) (s : State) : (startExternal k s).cfg = s.cfg := by
  unfold startExternal
  split <;> rfl

theorem startExternal_regs (k : ClkIdx) (s : State) : (startExternal k s).regs =
    if s.cfg.isExternal k then { s.regs with cgPsc := s.cfg.clkPsc.get k, cgRun := true } else s.regs := by
  unfold startExternal
  split <;> rfl

theorem setClk_cfg (k : ClkIdx) (s : State) : (setClk k s).2.cfg = s.cfg := by
  rw [setClk, (clWrite_usesBus _ _).cfg, selectClock, setRegs_cfg, startExternal_cfg, stopIfRunning_cfg]

theorem setClk_regs (k : ClkIdx) (s : State) : (setClk k s).2.regs = clockSelected s.cfg k s.regs := by
  rw [setClk, (clWrite_usesBus _ _).regs, selectClock, setRegs_regs, startExternal_regs, stopIfRunning_cfg,
    stopIfRunning_regs, clockSelected]
  cases s.cfg.isExternal k <;> rfl

/-! ### PROGRAM_SWEEP (42 rule R175) -/

/-- The registers after arming the wait (42 rule R177). -/
def armed (r : Regs) : Regs := { r with waitStart := r.tickCnt, waitActive := true }

theorem armWait_eq (s : State) : armWait s = setRegs (armed s.regs) s := rfl

/-- The bus operations of PROGRAM_SWEEP between SETCLK and arming the wait; `s` is the state it began in. -/
def programWrites (s : State) (k : ClkIdx) (f : U32) (n : U16) (r : Bool × State) : Bool × State :=
  andThen (ccWrite s.cfg.fcInit) (andThen (write16 s.cfg.aSettle (settle16 s.cfg s.regs.swMult s.regs.swSettle))
    (andThen (write16 s.cfg.aNumInc (ninc16 n)) (andThen (write24 s.cfg.aFreqInc (freqCode s.regs.swInc (s.cfg.clkRate.get k)))
      (andThen (write24 s.cfg.aFreqStart (freqCode f (s.cfg.clkRate.get k))) r))))

theorem programSteps_eq (k : ClkIdx) (f : U32) (n : U16) (s : State) : programSteps k f n s =
    andThen (fun t => (true, armWait t))
      (programWrites s k f n (andThen (setClk k) (ccWrite s.cfg.fcStandby s))) := rfl

theorem programWrites_usesBus (s : State) (k : ClkIdx) (f : U32) (n : U16) (r : Bool × State) :
    UsesBus r.2 (programWrites s k f n r).2 :=
  (((((UsesBus.refl r.2).andThen (write24_usesBus _ _)).andThen (write24_usesBus _ _)).andThen
    (write16_usesBus _ _)).andThen (write16_usesBus _ _)).andThen (ccWrite_usesBus _)

theorem programWrites_false (s : State) (k : ClkIdx) (f : U32) (n : U16) {r : Bool × State} (h : r.1 = false) :
    programWrites s k f n r = r := by
  simp only [programWrites, andThen_false _ h]

/-- What PROGRAM_SWEEP under clock `k`, begun with the registers `r`, answers and leaves in the registers. -/
inductive ProgramRegs (c : Config) (k : ClkIdx) (r : Regs) : Bool → Regs → Prop
  | whole : ProgramRegs c k r true (armed (clockSelected c k r))
  | cutBeforeClock : ProgramRegs c k r false r
  | cutAfterClock : ProgramRegs c k r false (clockSelected c k r)

theorem programSteps_regs (k : ClkIdx) (f : U32) (n : U16) (s : State) :
    (programSteps k f n s).2.cfg = s.cfg ∧
    ProgramRegs s.cfg k s.regs (programSteps k f n s).1 (programSteps k f n s).2.regs := by
  have p := ccWrite_usesBus s.cfg.fcStandby s
  rw [programSteps_eq]
  cases h : (ccWrite s.cfg.fcStandby s).1
  · rw [andThen_false _ h, programWrites_false s k f n h, andThen_false _ h, h, p.regs]
    exact ⟨p.cfg, .cutBeforeClock⟩
  · rw [andThen_true _ h]
    have q := programWrites_usesBus s k f n (setClk k (ccWrite s.cfg.fcStandby s).2)
    have qc := q.cfg
    have qr := q.regs
    rw [setClk_cfg, p.cfg] at qc
    rw [setClk_regs, p.cfg, p.regs] at qr
    cases g : (programWrites s k f n (setClk k (ccWrite s.cfg.fcStandby s).2)).1
    · rw [andThen_false _ g, g, qr]
      exact ⟨qc, .cutAfterClock⟩
    · rw [andThen_true _ g, armWait_eq, setRegs_regs, setRegs_cfg, qr]
      exact ⟨qc, .whole⟩

/-- PROGRAM_SWEEP that does not fault carries out its steps under the band of its frequency. -/
theorem programSweep_inv {f : U32} {n : U16} {s : State} {r : Bool × State} (h : programSweep f n s = .ok r) :
    ∃ k, selClk s.cfg f = some k ∧ r = programSteps k f n s := by
  cases e : selClk s.cfg f with
  | none => rw [programSweep_none e] at h; exact nomatch h
  | some k =>
    refine ⟨k, rfl, ?_⟩
    cases g : fits24 f.toNat (rateOf s.cfg k) && fits24 s.regs.swInc.toNat (rateOf s.cfg k)
    · rw [programSweep_unfit e g] at h; exact nomatch h
    · rw [programSweep_ok e g] at h; exact (Except.ok.inj h).symm

/-! ### The operations that write no register -/

/-- Does the access matrix of 10 rule R31 list a register as written by the operation? -/
def writesRegisters (i : Instr) : Bool :=
  match i with
  | .init => true
  | .reset => true
  | .measureImpedance _ _ _ => true
  | .measureTemperature _ => true
  | .tick => true
  | _ => false

theorem writesOnly_iff_eq {i : Instr} (h : writesRegisters i = false) (r q : Regs) : WritesOnly i r q ↔ q = r := by
  cases i with
  | init | reset | measureImpedance | measureTemperature | tick => exact nomatch h
  | _ => exact Iff.rfl

/-- An operation on the port of the sequencer uses the bus and delivers a reply, nothing else (log 3). -/
theorem exec_sequencer {i : Instr} (h : issuerOf i = .sequencer) (s : State) :
    ∃ u rep, exec i s = .next (setReply rep u) ∧ UsesBus (issueAs .sequencer s) u := by
  cases i with
  | setAddr a => exact ⟨_, _, rfl, setAddr_usesBus a _⟩
  | write8 a v => exact ⟨_, _, rfl, write8_usesBus a v _⟩
  | write16 a v => exact ⟨_, _, rfl, write16_usesBus a v _⟩
  | write24 a v => exact ⟨_, _, rfl, write24_usesBus a v _⟩
  | read8 a => exact ⟨_, _, rfl, read8_usesBus a _⟩
  | read16 a => exact ⟨_, _, rfl, read16_usesBus a _⟩
  | clWrite r c => exact ⟨_, _, rfl, clWrite_usesBus r _⟩
  | ccInit | ccStart | ccIncr | ccRepeat | ccMtemp | ccPdown | ccStandby => exact ⟨_, _, rfl, ccWrite_usesBus _ _⟩
  | _ => exact nomatch h

theorem exec_keeps_regs {i : Instr} {s t : State} (h : writesRegisters i = false) (e : exec i s = .next t) :
    t.cfg = s.cfg ∧ t.regs = s.regs := by
  by_cases q : issuerOf i = .sequencer
  · obtain ⟨u, rep, e', b⟩ := exec_sequencer q s
    obtain rfl := Host.Outcome.next.inj (e.symm.trans e')
    exact ⟨b.cfg, b.regs⟩
  · cases i with
    | isBusy | getSweepCount | calibrate =>
      obtain rfl := Host.Outcome.next.inj e
      exact ⟨rfl, rfl⟩
    | init | reset | measureImpedance | measureTemperature | tick => exact nomatch h
    | _ => exact absurd rfl q

/-! ### INIT and RESET (43 rules R191, R192) -/

theorem execInit_regs {s t : State} (h : execInit s = .next t) :
    t.cfg = s.cfg ∧ t.regs = { initRegs s.cfg s.regs with status := .idle } := by
  obtain rfl := Host.Outcome.next.inj h
  have p := chipReset_usesBus (cgStop (setRegs (initRegs s.cfg s.regs) (issueAs .init s)))
  constructor
  · rw [setReply_cfg, setStatus_cfg]
    exact p.cfg
  · rw [setReply_regs, setStatus_regs]
    exact congrArg (fun r : Regs => { r with status := .idle }) p.regs

theorem execReset_regs {s t : State} (h : execReset s = .next t) :
    t.cfg = s.cfg ∧ t.regs = { clearSweep s.regs with status := .idle } := by
  obtain rfl := Host.Outcome.next.inj h
  have p := chipReset_usesBus (issueAs .reset s)
  constructor
  · rw [returnStatus_cfg, setStatus_cfg, setRegs_cfg, p.cfg, issueAs_cfg]
  · rw [returnStatus_regs, setStatus_regs, setRegs_regs, p.regs, issueAs_regs]

/-! ### The start operations (43 rules R196 to R198, 44 rule R231) -/

/-- MEASURE_IMPEDANCE either stops at the validation, or its PROGRAM_SWEEP fails, or it starts the sweep. -/
inductive StartRegs (c : Config) (r captured : Regs) : Reply → Regs → Prop
  | rejected (rep : Reply) : StartRegs c r captured rep r
  | failed (rep : Reply) {k : ClkIdx} {q : Regs} (h : ProgramRegs c k captured false q) : StartRegs c r captured rep q
  | started (k : ClkIdx) : StartRegs c r captured (.code .ok) (beginSweep (armed (clockSelected c k captured)))

theorem startSweep_regs {sw : SweepSpec} {rg : RangeSettings} {b : Handle} {s t : State}
    (h : startSweep sw rg b s = .next t) :
    t.cfg = s.cfg ∧ StartRegs s.cfg s.regs (captureOperands sw rg b s.regs) t.reply t.regs := by
  unfold startSweep at h
  cases e : programSweep sw.start sw.increments (setRegs (captureOperands sw rg b s.regs) s) with
  | error f => rw [e] at h; exact nomatch h
  | ok r =>
    obtain ⟨k, -, rfl⟩ := programSweep_inv e
    obtain ⟨hc, hr⟩ := programSteps_regs k sw.start sw.increments (setRegs (captureOperands sw rg b s.regs) s)
    rw [e] at h
    generalize programSteps k sw.start sw.increments (setRegs (captureOperands sw rg b s.regs) s) = r at h hc hr
    obtain ⟨_ | _, u⟩ := r
    · obtain rfl := Host.Outcome.next.inj h
      exact ⟨hc, .failed _ hr⟩
    · obtain rfl := Host.Outcome.next.inj h
      refine ⟨hc, ?_⟩
      dsimp only [setRegs_cfg, setRegs_regs] at hr
      rw [endStart_regs, setRegs_regs]
      generalize u.regs = q at hr ⊢
      cases hr
      exact .started k

theorem execMeasureImpedance_regs {sw : SweepSpec} {rg : RangeSettings} {b : Handle} {s t : State}
    (h : execMeasureImpedance sw rg b s = .next t) :
    t.cfg = s.cfg ∧ StartRegs s.cfg s.regs (captureOperands sw rg b s.regs) t.reply t.regs := by
  by_cases v : validateSweep s sw = .none
  · rw [execMeasureImpedance_runs v] at h
    have p := startSweep_regs h
    exact p
  · rw [execMeasureImpedance_refused rfl v] at h
    obtain rfl := Host.Outcome.next.inj h
    exact ⟨rfl, .rejected _⟩

/-- MEASURE_TEMPERATURE either is rejected, or its command fails, or it waits for the chip; past the validation STATUS is not
busy. -/
inductive TemperatureRegs (dest : Handle) (r : Regs) : Reply → Regs → Prop
  | rejected (rep : Reply) : TemperatureRegs dest r rep r
  | failed (rep : Reply) : TemperatureRegs dest r rep { r with tempRef := dest }
  | started (ready : isBusyStatus r.status = false) :
      TemperatureRegs dest r (.code .ok) { r with tempRef := dest, status := .measureTemp }

/-- The one command of MEASURE_TEMPERATURE past the validation: the function code, after the cell's handle is captured. -/
def temperatureCommand (dest : Handle) (s : State) : Bool × State :=
  ccWrite s.cfg.fcMtemp (setRegs { s.regs with tempRef := dest } (issueAs .measureTemperature s))

theorem execMeasureTemperature_uninit {dest : Handle} {s : State} (u : s.regs.status = .uninit) :
    execMeasureTemperature dest s = .next (endStart .notInitialised (issueAs .measureTemperature s)) :=
  if_pos u

theorem execMeasureTemperature_busy {dest : Handle} {s : State} (b : isBusyStatus s.regs.status = true) :
    execMeasureTemperature dest s = .next (endStart .busy (issueAs .measureTemperature s)) := by
  have u : s.regs.status ≠ .uninit := fun u => by rw [u] at b; exact nomatch b
  exact (if_neg u).trans (if_pos b)

theorem execMeasureTemperature_ready {dest : Handle} {s : State} (u : s.regs.status ≠ .uninit)
    (b : isBusyStatus s.regs.status = false) : execMeasureTemperature dest s =
      .next (if (temperatureCommand dest s).1 then endStart .none (setStatus .measureTemp (temperatureCommand dest s).2)
        else endStart .transportFailure (temperatureCommand dest s).2) :=
  (if_neg u).trans (if_neg (ne_true_of_eq_false b))

theorem temperatureCommand_regs (dest : Handle) (s : State) : (temperatureCommand dest s).2.cfg = s.cfg ∧
    (temperatureCommand dest s).2.regs = { s.regs with tempRef := dest } :=
  have p := ccWrite_usesBus s.cfg.fcMtemp (setRegs { s.regs with tempRef := dest } (issueAs .measureTemperature s))
  ⟨p.cfg, p.regs⟩

theorem execMeasureTemperature_regs {dest : Handle} {s t : State} (h : execMeasureTemperature dest s = .next t) :
    t.cfg = s.cfg ∧ TemperatureRegs dest s.regs t.reply t.regs := by
  by_cases u : s.regs.status = .uninit
  · rw [execMeasureTemperature_uninit u] at h
    obtain rfl := Host.Outcome.next.inj h
    exact ⟨rfl, .rejected _⟩
  · cases b : isBusyStatus s.regs.status
    · rw [execMeasureTemperature_ready u b] at h
      obtain rfl := Host.Outcome.next.inj h
      obtain ⟨hc, hr⟩ := temperatureCommand_regs dest s
      split
      · rw [endStart_regs, setStatus_regs, hr]
        exact ⟨hc, .started b⟩
      · rw [endStart_regs, hr]
        exact ⟨hc, .failed _⟩
    · rw [execMeasureTemperature_busy b] at h
      obtain rfl := Host.Outcome.next.inj h
      exact ⟨rfl, .rejected _⟩

/-! ### TICK (43 rules R201 to R211) -/

/-- The step after a stored point: the sweep is finished, or the clock changes, or the chip increments. -/
inductive NextRegs (c : Config) (r : Regs) : Regs → Prop
  | finished : NextRegs c r { r with status := .finishImpedance }
  | clockChange {k : ClkIdx} {ok : Bool} {q : Regs} (h : ProgramRegs c k r ok q) : NextRegs c r q
  | increment : NextRegs c r r

theorem nextPoint_regs {st : Byte} {s t : State} (h : nextPoint st s = .ok t) :
    t.cfg = s.cfg ∧ NextRegs s.cfg s.regs t.regs := by
  cases d : sweepDone st
  · by_cases k : selClk s.cfg s.regs.freqCur = some s.regs.clkSel
    · rw [nextPoint_increment d k] at h
      obtain rfl := Except.ok.inj h
      have p := ccWrite_usesBus s.cfg.fcIncr s
      rw [p.regs]
      exact ⟨p.cfg, .increment⟩
    · rw [nextPoint_change d k] at h
      cases e : programSweep s.regs.freqCur (incrementsLeft s.regs) s with
      | error f => rw [e] at h; exact nomatch h
      | ok r =>
        rw [e] at h
        obtain rfl := Except.ok.inj h
        obtain ⟨k', -, rfl⟩ := programSweep_inv e
        obtain ⟨hc, hr⟩ := programSteps_regs k' s.regs.freqCur (incrementsLeft s.regs) s
        exact ⟨hc, .clockChange hr⟩
  · rw [nextPoint_done d] at h
    obtain rfl := Except.ok.inj h
    exact ⟨rfl, .finished⟩

theorem finishPoint_regs {st : Byte} {s t : State} (h : finishPoint st s = .ok t) :
    t.cfg = s.cfg ∧ NextRegs s.cfg (advancePoint s.regs) t.regs := by
  by_cases o : s.regs.swNinc < s.regs.point
  · rw [finishPoint_overrun o] at h; exact nomatch h
  · rw [finishPoint_store o] at h
    exact nextPoint_regs h

/-- What TICK leaves in the registers `r`, in the order of 43 rules R202 to R210, and of 44 rule R232. -/
inductive TickRegs (c : Config) (r : Regs) : Regs → Prop
  | onlyCounted : TickRegs c r (counted r)
  | waitOver (st : r.status = .measureImpedance) (w : r.waitActive = true) :
      TickRegs c r { counted r with waitActive := false }
  | sampled (st : r.status = .measureImpedance) (w : r.waitActive = false) (re im : U16) :
      TickRegs c r (accumulate re im (counted r))
  | stored (st : r.status = .measureImpedance) (w : r.waitActive = false) {q : Regs} (h : NextRegs c (advanced r) q) :
      TickRegs c r q
  | temperature (st : r.status = .measureTemp) : TickRegs c r { counted r with status := .finishTemp }

theorem tickWait_regs (s : State) : (tickWait s).cfg = s.cfg ∧
    ((tickWait s).regs = s.regs ∨ (tickWait s).regs = { s.regs with waitActive := false }) := by
  cases h : waitElapsed s.cfg s.regs
  · rw [tickWait_idle h]
    exact ⟨rfl, .inl rfl⟩
  · have p := ccWrite_usesBus s.cfg.fcStart s
    rw [tickWait_start h, setRegs_regs, setRegs_cfg, p.regs]
    exact ⟨p.cfg, .inr rfl⟩

theorem tickPoll_regs {s t : State} (h : tickPoll s = .ok t) : t.cfg = s.cfg ∧
    (t.regs = s.regs ∨ ∃ re im, t.regs = accumulate re im s.regs ∨
      NextRegs s.cfg (advancePoint (accumulate re im s.regs)) t.regs) := by
  have p := pollSample_usesBus s
  unfold tickPoll at h
  generalize pollSample s = r at p h
  obtain ⟨_ | ⟨st, re, im⟩, u⟩ := r
  · obtain rfl := Except.ok.inj h
    exact ⟨p.cfg, .inl p.regs⟩
  · dsimp only at p h
    rw [← p.cfg, ← p.regs]
    by_cases a : u.regs.avgCnt + 1 < u.regs.swAvg
    · rw [takeSample_repeat a] at h
      obtain rfl := Except.ok.inj h
      have q := ccWrite_usesBus u.cfg.fcRepeat (setRegs (accumulate re im u.regs) u)
      exact ⟨q.cfg, .inr ⟨re, im, .inl q.regs⟩⟩
    · rw [takeSample_complete a] at h
      obtain ⟨hc, hr⟩ := finishPoint_regs h
      exact ⟨hc, .inr ⟨re, im, .inr hr⟩⟩

theorem tickTemp_regs (s : State) : (tickTemp s).cfg = s.cfg ∧
    ((tickTemp s).regs = s.regs ∨ (tickTemp s).regs = { s.regs with status := .finishTemp }) := by
  have p := pollTemp_usesBus s
  unfold tickTemp
  generalize pollTemp s = r at p ⊢
  obtain ⟨_ | t, u⟩ := r
  · exact ⟨p.cfg, .inl p.regs⟩
  · refine ⟨p.cfg, .inr ?_⟩
    dsimp only at p ⊢
    rw [deliverTemp, setStatus_regs, writeTemp_regs, p.regs]

theorem execTick_regs {s t : State} (h : execTick s = .next t) : t.cfg = s.cfg ∧ TickRegs s.cfg s.regs t.regs := by
  cases st : s.regs.status with
  | uninit | idle | finishImpedance | finishTemp | finishCalib =>
    rw [execTick_quiet (by rw [st]; rfl)] at h
    obtain rfl := Host.Outcome.next.inj h
    exact ⟨rfl, .onlyCounted⟩
  | measureImpedance =>
    cases w : s.regs.waitActive
    · rw [execTick_poll st w] at h
      cases e : tickPoll (countTick (issueAs .tick s)) with
      | error f => rw [e] at h; exact nomatch h
      | ok u =>
        rw [e] at h
        obtain rfl := Host.Outcome.next.inj h
        rw [returnStatus_cfg, returnStatus_regs]
        obtain ⟨hc, hr | ⟨re, im, hr | hr⟩⟩ := tickPoll_regs e
        · exact ⟨hc, hr ▸ .onlyCounted⟩
        · exact ⟨hc, hr ▸ .sampled st w re im⟩
        · exact ⟨hc, .stored st w hr⟩
    · rw [execTick_wait st w] at h
      obtain rfl := Host.Outcome.next.inj h
      rw [returnStatus_cfg, returnStatus_regs]
      obtain ⟨hc, hr | hr⟩ := tickWait_regs (countTick (issueAs .tick s))
      · exact ⟨hc, hr ▸ .onlyCounted⟩
      · exact ⟨hc, hr ▸ .waitOver st w⟩
  | measureTemp =>
    rw [execTick_temp st] at h
    obtain rfl := Host.Outcome.next.inj h
    rw [returnStatus_cfg, returnStatus_regs]
    obtain ⟨hc, hr | hr⟩ := tickTemp_regs (countTick (issueAs .tick s))
    · exact ⟨hc, hr ▸ .onlyCounted⟩
    · exact ⟨hc, hr ▸ .temperature st⟩
  | calibrate =>
    have e : (countTick (issueAs .tick s)).regs.status = .calibrate := st
    simp only [execTick, e] at h
    exact nomatch h

end Sys2Proof.Machine
end

section
/-! PROOF. The statements of 10_state.md: the codes, hardware reset, the access matrix, the control state. -/

namespace Sys2Proof.Machine

open Sys2Proof.Claims

/-! ### Codes (10 rule R21, 30 rules R94, R108) -/

theorem statusOfCode_statusCode (v : Status) : statusOfCode (statusCode v) = some v := by
  cases v <;> rfl

theorem statusCode_lt (v : Status) : (statusCode v).toNat < 8 := by
  cases v <;> decide

theorem statusOfCode_reserved : ∀ c : BitVec 4, 8 ≤ c.toNat → statusOfCode c = none := by decide

theorem resultCode_ne_three (r : ResultCode) : resultCode r ≠ 3 := by
  cases r <;> decide

/-- Settles O5. -/
theorem statusAndResultCodes : Obligations.StatusAndResultCodes :=
  ⟨fun v => ⟨statusOfCode_statusCode v, statusCode_lt v⟩, statusOfCode_reserved,
    ⟨rfl, rfl, rfl, rfl, rfl, rfl, rfl, rfl⟩, fun _ => rfl, rfl, rfl, rfl, resultCode_ne_three⟩

/-! ### Hardware reset (10 rule R30) -/

/-- Settles O50: R30's values are what `Regs.atReset` writes down. -/
theorem hardwareResetValues : Obligations.HardwareResetValues :=
  ⟨rfl, fun _ => ⟨rfl, rfl, rfl, rfl, rfl, rfl, rfl, rfl, rfl, rfl, rfl, rfl⟩⟩

theorem suggested_wf : Config.suggested.Wf := by decide

theorem memoryInv_atReset (c : Config) : MemoryInv (State.atReset c) :=
  ⟨.nil, fun _ h => absurd h List.not_mem_nil, .nil, fun _ h => absurd h List.not_mem_nil, .nil,
    fun _ h => absurd h List.not_mem_nil⟩

/-- The internal source is selected after reset, and the generator shadow says it is stopped. -/
theorem clockInv_atReset (c : Config) : ClockInv (State.atReset c) where
  left := (bne_self_eq_false c.intIdx).symm
  right h := Bool.noConfusion (h : false = true)

/-- Settles O51: no sweep runs after reset, so only memory, control state and clock shadows have anything to show. -/
theorem resetMeetsTheInvariant : Obligations.ResetMeetsTheInvariant :=
  ⟨suggested_wf, fun c hc =>
    { config := hc
      memory := memoryInv_atReset c
      control := ⟨Status.noConfusion, Status.noConfusion, fun h => Bool.noConfusion (h : false = true)⟩
      clock := clockInv_atReset c
      sweep := fun h => Status.noConfusion (h : Status.uninit = .measureImpedance)
      records := fun h => Status.noConfusion (h : Status.uninit = .measureImpedance) }⟩

/-! ### The access matrix (10 rule R31) -/

theorem StartRegs.writesOnly {c : Config} {sw : SweepSpec} {rg : RangeSettings} {b : Handle} {r q : Regs} {rep : Reply}
    (h : StartRegs c r (captureOperands sw rg b r) rep q) : WritesOnly (.measureImpedance sw rg b) r q := by
  cases h with
  | rejected => rfl
  | failed _ h => cases h <;> rfl
  | started => rfl

theorem TemperatureRegs.writesOnly {dest : Handle} {r q : Regs} {rep : Reply} (h : TemperatureRegs dest r rep q) :
    WritesOnly (.measureTemperature dest) r q := by
  cases h <;> rfl

theorem TickRegs.writesOnly {c : Config} {r q : Regs} (h : TickRegs c r q) : WritesOnly .tick r q := by
  cases h with
  | onlyCounted => rfl
  | waitOver => rfl
  | sampled => rfl
  | temperature => rfl
  | stored _ _ h =>
    cases h with
    | finished => rfl
    | increment => rfl
    | clockChange h => cases h <;> rfl

/-- Settles O54, from what each operation leaves in the registers. -/
theorem operationsWriteOnlyTheirRegisters : Obligations.OperationsWriteOnlyTheirRegisters := by
  intro i s t e
  cases i with
  | init =>
    obtain ⟨hc, hr⟩ := execInit_regs e
    exact ⟨by rw [hr]; rfl, hc⟩
  | reset =>
    obtain ⟨hc, hr⟩ := execReset_regs e
    exact ⟨by rw [hr]; rfl, hc⟩
  | measureImpedance sw rg b =>
    obtain ⟨hc, hr⟩ := execMeasureImpedance_regs e
    exact ⟨hr.writesOnly, hc⟩
  | measureTemperature d =>
    obtain ⟨hc, hr⟩ := execMeasureTemperature_regs e
    exact ⟨hr.writesOnly, hc⟩
  | tick =>
    obtain ⟨hc, hr⟩ := execTick_regs e
    exact ⟨hr.writesOnly, hc⟩
  | _ =>
    obtain ⟨hc, hr⟩ := exec_keeps_regs rfl e
    exact ⟨(writesOnly_iff_eq rfl _ _).2 hr, hc⟩

/-! ### The control state (10 rule R22) -/

/-- The control state as it stands in the registers. -/
def controlOfRegs (r : Regs) : Status × Bool := (r.status, r.waitActive)

theorem controlState_eq (s : State) : controlState s = controlOfRegs s.regs := rfl

/-- PROGRAM_SWEEP leaves the control state alone unless it arms the wait. -/
theorem ProgramRegs.control {c : Config} {k : ClkIdx} {r q : Regs} {ok : Bool} (h : ProgramRegs c k r ok q) :
    controlOfRegs q = (r.status, ok || r.waitActive) := by
  cases h <;> rfl

theorem StartRegs.control {c : Config} {sw : SweepSpec} {rg : RangeSettings} {b : Handle} {r q : Regs} {rep : Reply}
    (h : StartRegs c r (captureOperands sw rg b r) rep q) :
    controlOfRegs q = controlOfRegs r ∨ rep = .code .ok ∧ controlOfRegs q = (.measureImpedance, true) := by
  cases h with
  | rejected => exact .inl rfl
  | failed _ h => exact .inl h.control
  | started => exact .inr ⟨rfl, rfl⟩

/-- Outside MeasureImpedance the wait is not running. -/
theorem ControlInv.wait_false {r : Regs} (h : ControlInv r) (n : r.status ≠ .measureImpedance) : r.waitActive = false :=
  have ⟨_, _, wait⟩ := h
  eq_false_of_ne_true fun w => n (wait w)

theorem TemperatureRegs.control {dest : Handle} {r q : Regs} {rep : Reply} (h : TemperatureRegs dest r rep q)
    (inv : ControlInv r) :
    controlOfRegs q = controlOfRegs r ∨ rep = .code .ok ∧ controlOfRegs q = (.measureTemp, false) := by
  cases h with
  | rejected => exact .inl rfl
  | failed => exact .inl rfl
  | started ready =>
    have w := inv.wait_false fun st => by rw [st] at ready; exact nomatch ready
    exact .inr ⟨rfl, Prod.ext rfl w⟩

/-- The four changes TICK makes, each from its own control state. -/
theorem TickRegs.control {c : Config} {r q : Regs} (h : TickRegs c r q) (inv : ControlInv r) :
    controlOfRegs q = controlOfRegs r ∨
    controlOfRegs r = (.measureImpedance, true) ∧ controlOfRegs q = (.measureImpedance, false) ∨
    controlOfRegs r = (.measureImpedance, false) ∧ controlOfRegs q = (.measureImpedance, true) ∨
    controlOfRegs r = (.measureImpedance, false) ∧ controlOfRegs q = (.finishImpedance, false) ∨
    controlOfRegs r = (.measureTemp, false) ∧ controlOfRegs q = (.finishTemp, false) := by
  cases h with
  | onlyCounted => exact .inl rfl
  | waitOver st w => exact .inr (.inl ⟨Prod.ext st w, Prod.ext st rfl⟩)
  | sampled => exact .inl rfl
  | temperature st =>
    have w := inv.wait_false fun e => nomatch st.symm.trans e
    exact .inr (.inr (.inr (.inr ⟨Prod.ext st w, Prod.ext rfl w⟩)))
  | stored st w h =>
    cases h with
    | finished => exact .inr (.inr (.inr (.inl ⟨Prod.ext st w, Prod.ext rfl w⟩)))
    | increment => exact .inl rfl
    | @clockChange _ ok _ h =>
      cases ok with
      | false => exact .inl h.control
      | true => exact .inr (.inr (.inl ⟨Prod.ext st w, h.control.trans (Prod.ext st rfl)⟩))

/-- Settles O53, from the control state that each operation leaves in the registers. -/
theorem controlStateChangesOnlyAsListed : Obligations.ControlStateChangesOnlyAsListed := by
  intro i s t inv e
  simp only [controlState_eq]
  cases i with
  | init => exact .inr (.inl ⟨.inl rfl, congrArg controlOfRegs (execInit_regs e).2⟩)
  | reset => exact .inr (.inl ⟨.inr rfl, congrArg controlOfRegs (execReset_regs e).2⟩)
  | measureImpedance sw rg b =>
    obtain h | ⟨ok, h⟩ := (execMeasureImpedance_regs e).2.control
    · exact .inl h
    · exact .inr (.inr (.inl ⟨sw, rg, b, rfl, ok, h⟩))
  | measureTemperature d =>
    obtain h | ⟨ok, h⟩ := (execMeasureTemperature_regs e).2.control inv
    · exact .inl h
    · exact .inr (.inr (.inr (.inl ⟨d, rfl, ok, h⟩)))
  | tick =>
    obtain h | h | h | h | h := (execTick_regs e).2.control inv
    · exact .inl h
    all_goals simp [h]
  | _ => exact .inl (congrArg controlOfRegs (exec_keeps_regs rfl e).2)

end Sys2Proof.Machine
end

section
/-! PROOF. Noninterference of `RG_ATTEN` and `RG_RFB` (10 rule R25): every operation commutes with putting other values into
these two registers, except MEASURE_IMPEDANCE, which overwrites them. -/

namespace Sys2Proof.Machine

open Sys2Proof.Claims

variable (x y : U32) (s : State)

@[simp] theorem scrambled_cfg : (scrambled x y s).cfg = s.cfg := rfl

/-- Other values in `RG_ATTEN` and `RG_RFB` show nowhere in what `f` answers or does, and stay. -/
def IgnoresOpaque {α : Type} (f : State → α × State) : Prop :=
  ∀ (x y : U32) (s : State), f (scrambled x y s) = Prod.map id (scrambled x y) (f s)

/-! ### The bus -/

theorem framePointerSet_ignoresOpaque (a : Byte) : IgnoresOpaque (framePointerSet a) := fun _ _ _ => rfl

theorem frameByteWrite_ignoresOpaque (a v : Byte) : IgnoresOpaque (frameByteWrite a v) := fun _ _ _ => rfl

theorem frameBlockWrite_ignoresOpaque (a : Byte) (bs : List Byte) : IgnoresOpaque (frameBlockWrite a bs) :=
  fun _ _ _ => rfl

theorem frameByteReceive_ignoresOpaque (a : Byte) : IgnoresOpaque (frameByteReceive a) := fun _ _ _ => rfl

theorem frameBlockRead_ignoresOpaque (a : Byte) : IgnoresOpaque (frameBlockRead a) := fun _ _ _ => rfl

theorem IgnoresOpaque.andThen {f : State → Bool × State} (h : IgnoresOpaque f) (r : Bool × State) :
    andThen f (Prod.map id (scrambled x y) r) = Prod.map id (scrambled x y) (andThen f r) := by
  obtain ⟨_ | _, t⟩ := r
  · rfl
  · exact h x y t

theorem IgnoresOpaque.andThenRead {α : Type} {f : State → Option α × State} (h : IgnoresOpaque f) (r : Bool × State) :
    andThenRead f (Prod.map id (scrambled x y) r) = Prod.map id (scrambled x y) (andThenRead f r) := by
  obtain ⟨_ | _, t⟩ := r
  · rfl
  · exact h x y t

theorem write16_ignoresOpaque (a : Byte) (v : U16) : IgnoresOpaque (write16 a v) :=
  fun x y s => (frameBlockWrite_ignoresOpaque a (bytes16 v)).andThen x y (setAddr a s)

theorem write24_ignoresOpaque (a : Byte) (v : U24) : IgnoresOpaque (write24 a v) :=
  fun x y s => (frameBlockWrite_ignoresOpaque a (bytes24 v)).andThen x y (setAddr a s)

theorem read8_ignoresOpaque (a : Byte) : IgnoresOpaque (read8 a) :=
  fun x y s => (frameByteReceive_ignoresOpaque a).andThenRead x y (setAddr a s)

theorem read16_ignoresOpaque (a : Byte) : IgnoresOpaque (read16 a) :=
  fun x y s => (frameBlockRead_ignoresOpaque a).andThenRead x y (setAddr a s)

theorem ccWrite_ignoresOpaque (fc : BitVec 4) : IgnoresOpaque (ccWrite fc) := fun _ _ _ => rfl

theorem clWrite_ignoresOpaque (r : BitVec 1) : IgnoresOpaque (clWrite r) := fun _ _ _ => rfl

theorem chipReset_scrambled : chipReset (scrambled x y s) = scrambled x y (chipReset s) := rfl

/-! ### SETCLK and PROGRAM_SWEEP -/

theorem stopIfRunning_scrambled : stopIfRunning (scrambled x y s) = scrambled x y (stopIfRunning s) := by
  unfold stopIfRunning
  rw [apply_ite (scrambled x y)]
  rfl

theorem startExternal_scrambled (k : ClkIdx) :
    startExternal k (scrambled x y s) = scrambled x y (startExternal k s) := by
  unfold startExternal
  rw [apply_ite (scrambled x y)]
  rfl

theorem setClk_ignoresOpaque (k : ClkIdx) : IgnoresOpaque (setClk k) := by
  intro x y s
  rw [setClk, stopIfRunning_scrambled, startExternal_scrambled]
  exact clWrite_ignoresOpaque 0 x y (selectClock k (startExternal k (stopIfRunning s)))

theorem programWrites_scrambled (k : ClkIdx) (f : U32) (n : U16) (r : Bool × State) :
    programWrites (scrambled x y s) k f n (Prod.map id (scrambled x y) r) =
      Prod.map id (scrambled x y) (programWrites s k f n r) := by
  change programWrites s k f n _ = _
  simp only [programWrites, (write24_ignoresOpaque _ _).andThen, (write16_ignoresOpaque _ _).andThen,
    (ccWrite_ignoresOpaque _).andThen]

theorem programSteps_ignoresOpaque (k : ClkIdx) (f : U32) (n : U16) : IgnoresOpaque (programSteps k f n) := by
  intro x y s
  have arm : IgnoresOpaque fun t => (true, armWait t) := fun _ _ _ => rfl
  rw [programSteps_eq, programSteps_eq, scrambled_cfg, ccWrite_ignoresOpaque, (setClk_ignoresOpaque k).andThen,
    programWrites_scrambled, arm.andThen]

theorem programSweep_scrambled (f : U32) (n : U16) :
    programSweep f n (scrambled x y s) = (programSweep f n s).map (Prod.map id (scrambled x y)) := by
  cases e : selClk s.cfg f with
  | none => rw [programSweep_none e, programSweep_none (s := scrambled x y s) e]; rfl
  | some k =>
    cases g : fits24 f.toNat (rateOf s.cfg k) && fits24 s.regs.swInc.toNat (rateOf s.cfg k)
    · rw [programSweep_unfit e g, programSweep_unfit (s := scrambled x y s) e g]; rfl
    · rw [programSweep_ok e g, programSweep_ok (s := scrambled x y s) e g, programSteps_ignoresOpaque]; rfl

/-! ### TICK -/

theorem pollSample_ignoresOpaque : IgnoresOpaque pollSample := by
  intro x y s
  unfold pollSample
  rw [scrambled_cfg, read8_ignoresOpaque]
  obtain ⟨_ | st, s1⟩ := read8 s.cfg.aStatus s
  · rfl
  · dsimp only [Prod.map, id]
    split
    · rw [scrambled_cfg, read16_ignoresOpaque]
      obtain ⟨_ | re, s2⟩ := read16 s1.cfg.aReal s1
      · rfl
      · dsimp only [Prod.map, id]
        rw [scrambled_cfg, read16_ignoresOpaque]
        obtain ⟨_ | im, s3⟩ := read16 s2.cfg.aImag s2 <;> rfl
    · rfl

theorem pollTemp_ignoresOpaque : IgnoresOpaque pollTemp := by
  intro x y s
  unfold pollTemp
  rw [scrambled_cfg, read8_ignoresOpaque]
  obtain ⟨_ | st, s1⟩ := read8 s.cfg.aStatus s
  · rfl
  · dsimp only [Prod.map, id]
    split
    · rw [scrambled_cfg, read16_ignoresOpaque]; rfl
    · rfl

theorem tickTemp_scrambled : tickTemp (scrambled x y s) = scrambled x y (tickTemp s) := by
  unfold tickTemp
  rw [pollTemp_ignoresOpaque]
  obtain ⟨_ | t, s1⟩ := pollTemp s <;> rfl

theorem tickWait_scrambled : tickWait (scrambled x y s) = scrambled x y (tickWait s) := by
  unfold tickWait
  rw [apply_ite (scrambled x y)]
  rfl

theorem nextPoint_scrambled (st : Byte) : nextPoint st (scrambled x y s) = (nextPoint st s).map (scrambled x y) := by
  cases d : sweepDone st
  · by_cases k : selClk s.cfg s.regs.freqCur = some s.regs.clkSel
    · rw [nextPoint_increment d k, nextPoint_increment (s := scrambled x y s) d k]; rfl
    · rw [nextPoint_change d k, nextPoint_change (s := scrambled x y s) d k, programSweep_scrambled]
      change ((programSweep s.regs.freqCur (incrementsLeft s.regs) s).map _).map _ = _
      cases programSweep s.regs.freqCur (incrementsLeft s.regs) s <;> rfl
  · rw [nextPoint_done d, nextPoint_done d]; rfl

theorem finishPoint_scrambled (st : Byte) :
    finishPoint st (scrambled x y s) = (finishPoint st s).map (scrambled x y) := by
  by_cases o : s.regs.swNinc < s.regs.point
  · rw [finishPoint_overrun o, finishPoint_overrun (s := scrambled x y s) o]; rfl
  · rw [finishPoint_store o, finishPoint_store (s := scrambled x y s) o, ← nextPoint_scrambled]; rfl

theorem takeSample_scrambled (st : Byte) (re im : U16) :
    takeSample st re im (scrambled x y s) = (takeSample st re im s).map (scrambled x y) := by
  by_cases a : s.regs.avgCnt + 1 < s.regs.swAvg
  · rw [takeSample_repeat a, takeSample_repeat (s := scrambled x y s) a]; rfl
  · rw [takeSample_complete a, takeSample_complete (s := scrambled x y s) a, ← finishPoint_scrambled]; rfl

theorem tickPoll_scrambled : tickPoll (scrambled x y s) = (tickPoll s).map (scrambled x y) := by
  unfold tickPoll
  rw [pollSample_ignoresOpaque]
  obtain ⟨_ | ⟨st, re, im⟩, s1⟩ := pollSample s
  · rfl
  · exact takeSample_scrambled x y s1 st re im

/-- An outcome with other values in `RG_ATTEN` and `RG_RFB` of its next state. -/
def scrambledOutcome (o : Host.Outcome State Fault Refusal) : Host.Outcome State Fault Refusal :=
  match o with
  | .next t => .next (scrambled x y t)
  | .fault f => .fault f
  | .refused r => .refused r

theorem endTick_scrambled (r : Except Fault State) :
    endTick (r.map (scrambled x y)) = scrambledOutcome x y (endTick r) := by
  cases r <;> rfl

theorem beginTick_scrambled : countTick (issueAs .tick (scrambled x y s)) =
    scrambled x y (countTick (issueAs .tick s)) := rfl

theorem execTick_scrambled : execTick (scrambled x y s) = scrambledOutcome x y (execTick s) := by
  cases st : s.regs.status with
  | uninit | idle | finishImpedance | finishTemp | finishCalib =>
    have q : isBusyStatus s.regs.status = false := by rw [st]; rfl
    rw [execTick_quiet q, execTick_quiet (s := scrambled x y s) q]; rfl
  | measureImpedance =>
    cases w : s.regs.waitActive
    · rw [execTick_poll st w, execTick_poll (s := scrambled x y s) st w, beginTick_scrambled, tickPoll_scrambled,
        endTick_scrambled]
    · rw [execTick_wait st w, execTick_wait (s := scrambled x y s) st w, beginTick_scrambled, tickWait_scrambled]
      rfl
  | measureTemp =>
    rw [execTick_temp st, execTick_temp (s := scrambled x y s) st, beginTick_scrambled, tickTemp_scrambled]
    rfl
  | calibrate =>
    have e : (countTick (issueAs .tick s)).regs.status = .calibrate := st
    have e' : (countTick (issueAs .tick (scrambled x y s))).regs.status = .calibrate := st
    simp only [execTick, e, e', scrambledOutcome]

/-! ### The other operations -/

theorem temperatureCommand_ignoresOpaque (dest : Handle) : IgnoresOpaque (temperatureCommand dest) :=
  fun _ _ _ => rfl

theorem execMeasureTemperature_scrambled (dest : Handle) :
    execMeasureTemperature dest (scrambled x y s) = scrambledOutcome x y (execMeasureTemperature dest s) := by
  by_cases u : s.regs.status = .uninit
  · rw [execMeasureTemperature_uninit u, execMeasureTemperature_uninit (s := scrambled x y s) u]; rfl
  · cases b : isBusyStatus s.regs.status
    · rw [execMeasureTemperature_ready u b, execMeasureTemperature_ready (s := scrambled x y s) u b,
        temperatureCommand_ignoresOpaque]
      obtain ⟨_ | _, t⟩ := temperatureCommand dest s <;> rfl
    · rw [execMeasureTemperature_busy b, execMeasureTemperature_busy (s := scrambled x y s) b]; rfl

theorem replyVerdict_scrambled (r : Bool × State) :
    replyVerdict (Prod.map id (scrambled x y) r) = scrambledOutcome x y (replyVerdict r) := rfl

/-- An operation that ignores the two registers, presented on the port of the sequencer with its verdict as the reply. -/
theorem IgnoresOpaque.replyVerdict {f : State → Bool × State} (h : IgnoresOpaque f) :
    replyVerdict (f (issueAs .sequencer (scrambled x y s))) =
      scrambledOutcome x y (replyVerdict (f (issueAs .sequencer s))) :=
  congrArg Machine.replyVerdict (h x y (issueAs .sequencer s))

/-- Every operation but MEASURE_IMPEDANCE commutes with the change of the two registers. -/
theorem exec_scrambled {i : Instr} (h : ∀ sw rg b, i ≠ .measureImpedance sw rg b) :
    exec i (scrambled x y s) = scrambledOutcome x y (exec i s) := by
  cases i with
  | init =>
    exact congrArg (fun t => Host.Outcome.next (setReply .nothing (setStatus .idle t)))
      (chipReset_scrambled x y (cgStop (setRegs (initRegs s.cfg s.regs) (issueAs .init s))))
  | reset =>
    exact congrArg (fun t => Host.Outcome.next (returnStatus (setStatus .idle (setRegs (clearSweep t.regs) t))))
      (chipReset_scrambled x y (issueAs .reset s))
  | isBusy => rfl
  | getSweepCount => rfl
  | calibrate => rfl
  | measureImpedance sw rg b => exact absurd rfl (h sw rg b)
  | measureTemperature dest => exact execMeasureTemperature_scrambled x y s dest
  | tick => exact execTick_scrambled x y s
  | setAddr a => exact (framePointerSet_ignoresOpaque a).replyVerdict x y s
  | write8 a v => exact (frameByteWrite_ignoresOpaque a v).replyVerdict x y s
  | write16 a v => exact (write16_ignoresOpaque a v).replyVerdict x y s
  | write24 a v => exact (write24_ignoresOpaque a v).replyVerdict x y s
  | read8 a =>
    exact congrArg (fun r : Option Byte × State => Host.Outcome.next (setReply (.byte r.1) r.2))
      (read8_ignoresOpaque a x y (issueAs .sequencer s))
  | read16 a =>
    exact congrArg (fun r : Option U16 × State => Host.Outcome.next (setReply (.word r.1) r.2))
      (read16_ignoresOpaque a x y (issueAs .sequencer s))
  | ccInit | ccStart | ccIncr | ccRepeat | ccMtemp | ccPdown | ccStandby =>
    exact (ccWrite_ignoresOpaque _).replyVerdict x y s
  | clWrite r c => exact (clWrite_ignoresOpaque r).replyVerdict x y s

/-! ### The statement -/

theorem sameButOpaque_refl (o : Host.Outcome State Fault Refusal) : SameButOpaque o o := by
  cases o <;> rfl

theorem sameButOpaque_scrambledOutcome (o : Host.Outcome State Fault Refusal) :
    SameButOpaque o (scrambledOutcome x y o) := by
  cases o <;> rfl

/-- MEASURE_IMPEDANCE overwrites both registers with its operands before anything else (43 rule R197). -/
theorem startSweep_scrambled (sw : SweepSpec) (rg : RangeSettings) (b : Handle) :
    startSweep sw rg b (scrambled x y s) = startSweep sw rg b s := rfl

theorem execMeasureImpedance_scrambled (sw : SweepSpec) (rg : RangeSettings) (b : Handle) :
    SameButOpaque (execMeasureImpedance sw rg b s) (execMeasureImpedance sw rg b (scrambled x y s)) := by
  by_cases v : validateSweep s sw = .none
  · rw [execMeasureImpedance_runs v, execMeasureImpedance_runs (s := scrambled x y s) v]
    exact sameButOpaque_refl _
  · rw [execMeasureImpedance_refused rfl v, execMeasureImpedance_refused (s := scrambled x y s) rfl v]
    rfl

/-- Settles O57: past its validation MEASURE_IMPEDANCE has forgotten the two values, every other operation carries them
along. -/
theorem opaqueRangeFieldsAreNeverRead : Obligations.OpaqueRangeFieldsAreNeverRead := by
  intro i s x y
  by_cases m : ∃ sw rg b, i = .measureImpedance sw rg b
  · obtain ⟨sw, rg, b, rfl⟩ := m
    exact execMeasureImpedance_scrambled x y s sw rg b
  · rw [exec_scrambled x y s fun sw rg b e => m ⟨sw, rg, b, e⟩]
    exact sameButOpaque_scrambledOutcome x y _

end Sys2Proof.Machine
end

section
/-! PROOF. The frames the block makes by itself (20 rules R62, R67): every shared operation records only those, and so does
every command of the host and TICK. -/

namespace Sys2Proof.Machine

open Sys2Proof.Claims

/-! ### Recording nothing but the block's own events -/

/-- From `s` to `t` only events the block makes were recorded, under the tag of `s`, and the parameters are the same. -/
structure MakesOwnFrames (s t : State) : Prop where
  cfg : t.cfg = s.cfg
  issuer : t.issuer = s.issuer
  recorded : ∃ es, Recorded s.issuer es s t ∧ ∀ e ∈ es, BlockMakes s.cfg e

/-- An update that records nothing. -/
theorem MakesOwnFrames.silent {s t : State} (hc : t.cfg = s.cfg) (hi : t.issuer = s.issuer)
    (hh : t.history = s.history) : MakesOwnFrames s t where
  cfg := hc
  issuer := hi
  recorded := ⟨[], hh.trans (List.append_nil _).symm, fun _ he => absurd he List.not_mem_nil⟩

/-- An update that records one event. -/
theorem MakesOwnFrames.single {s t : State} {e : EventKind} (hc : t.cfg = s.cfg) (hi : t.issuer = s.issuer)
    (hh : t.history = s.history ++ [⟨s.issuer, e⟩]) (he : BlockMakes s.cfg e) : MakesOwnFrames s t where
  cfg := hc
  issuer := hi
  recorded := ⟨[e], hh, fun _ hx => List.mem_singleton.1 hx ▸ he⟩

theorem MakesOwnFrames.trans {s t u : State} (h : MakesOwnFrames s t) (k : MakesOwnFrames t u) :
    MakesOwnFrames s u where
  cfg := k.cfg.trans h.cfg
  issuer := k.issuer.trans h.issuer
  recorded := by
    obtain ⟨es, hes, he⟩ := h.recorded
    obtain ⟨fs, hfs, hf⟩ := k.recorded
    rw [h.issuer] at hfs
    rw [h.cfg] at hf
    refine ⟨es ++ fs, ?_, fun e m => (List.mem_append.1 m).elim (he e) (hf e)⟩
    rw [Recorded, hfs, hes, List.map_append, List.append_assoc]

/-- A further operation of a sequence that stops at the first FAIL. -/
theorem MakesOwnFrames.andThen {s : State} {r : Bool × State} {f : State → Bool × State} (h : MakesOwnFrames s r.2)
    (k : ∀ t, t.cfg = s.cfg → MakesOwnFrames t (f t).2) : MakesOwnFrames s (andThen f r).2 := by
  cases e : r.1
  · rwa [andThen_false f e]
  · rw [andThen_true f e]; exact h.trans (k r.2 h.cfg)

/-- A read after a pointer set. -/
theorem MakesOwnFrames.andThenRead {α : Type} {s : State} {r : Bool × State} {f : State → Option α × State}
    (h : MakesOwnFrames s r.2) (k : ∀ t, t.cfg = s.cfg → MakesOwnFrames t (f t).2) :
    MakesOwnFrames s (andThenRead f r).2 := by
  cases e : r.1
  · rwa [andThenRead_false f e]
  · rw [andThenRead_true f e]; exact h.trans (k r.2 h.cfg)

/-- One frame on the bus, of a kind the block makes. -/
theorem BusOnly.makesOwnFrames {P : Byte → Prop} {k : FrameKind} {a : Byte} {sent received : List Byte} {ok : Bool}
    {s t : State} (h : BusOnly P 1 [.frame k s.cfg.busDevAddr a sent received ok] s t)
    (b : BlockFrame s.cfg k a sent) : MakesOwnFrames s t :=
  .single h.cfg h.issuer h.history ⟨rfl, b⟩

/-! ### The named updates of the state -/

theorem setRegs_makesOwnFrames (r : Regs) (s : State) : MakesOwnFrames s (setRegs r s) := .silent rfl rfl rfl

theorem setStatus_makesOwnFrames (v : Status) (s : State) : MakesOwnFrames s (setStatus v s) := .silent rfl rfl rfl

theorem setReply_makesOwnFrames (r : Reply) (s : State) : MakesOwnFrames s (setReply r s) := .silent rfl rfl rfl

theorem returnStatus_makesOwnFrames (s : State) : MakesOwnFrames s (returnStatus s) := .silent rfl rfl rfl

theorem cgStop_makesOwnFrames (s : State) : MakesOwnFrames s (cgStop s) := .single rfl rfl rfl trivial

theorem cgSetPsc_makesOwnFrames (p : U16) (s : State) : MakesOwnFrames s (cgSetPsc p s) := .single rfl rfl rfl trivial

theorem cgStart_makesOwnFrames (s : State) : MakesOwnFrames s (cgStart s) := .single rfl rfl rfl trivial

theorem endStart_makesOwnFrames (c : Cause) (s : State) : MakesOwnFrames s (endStart c s) := .single rfl rfl rfl trivial

theorem writeSample_makesOwnFrames (ref : Handle) (i : U16) (rec : Sample) (s : State) :
    MakesOwnFrames s (writeSample ref i rec s) := .single rfl rfl rfl trivial

theorem writeTemp_makesOwnFrames (ref : Handle) (t : U16) (s : State) : MakesOwnFrames s (writeTemp ref t s) :=
  .single rfl rfl rfl trivial

/-! ### The transport operations, each for the registers of its width (10 rule R40, 20 rule R67) -/

section
variable {s : State} {a : Byte}

theorem setAddr_makesOwnFrames (h : a ∈ [s.cfg.aFreqStart, s.cfg.aFreqInc, s.cfg.aNumInc, s.cfg.aSettle, s.cfg.aStatus,
    s.cfg.aTemp, s.cfg.aReal, s.cfg.aImag]) : MakesOwnFrames s (setAddr a s).2 :=
  (framePointerSet_busOnly a s).makesOwnFrames ⟨rfl, h⟩

theorem write24_makesOwnFrames (v : U24) (h : a ∈ [s.cfg.aFreqStart, s.cfg.aFreqInc]) :
    MakesOwnFrames s (write24 a v s).2 :=
  (setAddr_makesOwnFrames (List.mem_append_left _ h)).andThen fun t ht =>
    (frameBlockWrite_busOnly a (bytes24 v) t).makesOwnFrames (.inl ⟨ht ▸ h, _, _, _, rfl⟩)

theorem write16_makesOwnFrames (v : U16) (h : a ∈ [s.cfg.aNumInc, s.cfg.aSettle]) :
    MakesOwnFrames s (write16 a v s).2 :=
  (setAddr_makesOwnFrames (by simp only [List.mem_cons] at h ⊢; tauto)).andThen fun t ht =>
    (frameBlockWrite_busOnly a (bytes16 v) t).makesOwnFrames (.inr ⟨ht ▸ h, _, _, rfl⟩)

theorem read16_makesOwnFrames (h : a ∈ [s.cfg.aTemp, s.cfg.aReal, s.cfg.aImag]) : MakesOwnFrames s (read16 a s).2 :=
  (setAddr_makesOwnFrames (by simp only [List.mem_cons] at h ⊢; tauto)).andThenRead fun t ht =>
    (frameBlockRead_busOnly a t).makesOwnFrames ⟨rfl, ht ▸ h⟩

end

theorem readStatus_makesOwnFrames (s : State) : MakesOwnFrames s (read8 s.cfg.aStatus s).2 :=
  (setAddr_makesOwnFrames (by simp)).andThenRead fun t ht =>
    (frameByteReceive_busOnly s.cfg.aStatus t).makesOwnFrames ⟨rfl, by rw [ht]⟩

/-! ### The control writes (42 rules R165, R167, R173) -/

/-- A control-byte command with one of the six codes the block issues: all but power-down (30 rule R105). -/
theorem ccWrite_makesOwnFrames {fc : BitVec 4} {s : State} (h : fc ∈ [s.cfg.fcInit, s.cfg.fcStart, s.cfg.fcIncr,
    s.cfg.fcRepeat, s.cfg.fcMtemp, s.cfg.fcStandby]) : MakesOwnFrames s (ccWrite fc s).2 :=
  (ccWrite_spec fc s).2.makesOwnFrames (.inl ⟨rfl, fc, _, _, h, rfl⟩)

theorem clWrite_makesOwnFrames (r : BitVec 1) (s : State) : MakesOwnFrames s (clWrite r s).2 :=
  (clWrite_spec r s).2.makesOwnFrames (.inr ⟨rfl, r, _, rfl⟩)

theorem chipReset_makesOwnFrames (s : State) : MakesOwnFrames s (chipReset s) :=
  ((ccWrite_makesOwnFrames (by simp)).trans (clWrite_makesOwnFrames 1 _)).trans (clWrite_makesOwnFrames 0 _)

/-! ### SETCLK and PROGRAM_SWEEP (42 rules R163, R175) -/

theorem stopIfRunning_makesOwnFrames (s : State) : MakesOwnFrames s (stopIfRunning s) := by
  unfold stopIfRunning
  split
  · exact (cgStop_makesOwnFrames s).trans (setRegs_makesOwnFrames _ _)
  · exact .silent rfl rfl rfl

theorem startExternal_makesOwnFrames (k : ClkIdx) (s : State) : MakesOwnFrames s (startExternal k s) := by
  unfold startExternal
  split
  · exact (((cgSetPsc_makesOwnFrames _ s).trans (setRegs_makesOwnFrames _ _)).trans (cgStart_makesOwnFrames _)).trans
      (setRegs_makesOwnFrames _ _)
  · exact .silent rfl rfl rfl

theorem setClk_makesOwnFrames (k : ClkIdx) (s : State) : MakesOwnFrames s (setClk k s).2 :=
  (((stopIfRunning_makesOwnFrames s).trans (startExternal_makesOwnFrames k _)).trans
    (setRegs_makesOwnFrames _ _)).trans (clWrite_makesOwnFrames 0 _)

theorem programWrites_makesOwnFrames {s : State} {r : Bool × State} (h : MakesOwnFrames s r.2) (k : ClkIdx) (f : U32)
    (n : U16) : MakesOwnFrames s (programWrites s k f n r).2 :=
  ((((h.andThen fun _ ht => write24_makesOwnFrames _ (by simp [ht])).andThen
    fun _ ht => write24_makesOwnFrames _ (by simp [ht])).andThen
    fun _ ht => write16_makesOwnFrames _ (by simp [ht])).andThen
    fun _ ht => write16_makesOwnFrames _ (by simp [ht])).andThen
    fun _ ht => ccWrite_makesOwnFrames (by simp [ht])

theorem programSteps_makesOwnFrames (k : ClkIdx) (f : U32) (n : U16) (s : State) :
    MakesOwnFrames s (programSteps k f n s).2 := by
  rw [programSteps_eq]
  have standby : MakesOwnFrames s (ccWrite s.cfg.fcStandby s).2 := ccWrite_makesOwnFrames (by simp)
  have clocked := standby.andThen fun t _ => setClk_makesOwnFrames k t
  exact (programWrites_makesOwnFrames clocked k f n).andThen fun t _ => setRegs_makesOwnFrames (armed t.regs) t

theorem programSweep_makesOwnFrames {f : U32} {n : U16} {s : State} {r : Bool × State}
    (h : programSweep f n s = .ok r) : MakesOwnFrames s r.2 := by
  obtain ⟨k, -, rfl⟩ := programSweep_inv h
  exact programSteps_makesOwnFrames k f n s

/-! ### The polls (43 rules R205, R206; 44 rule R232) -/

/-- A poll for a sample ends after the status byte, after the real or after the imaginary sample. -/
theorem pollSample_snd (s : State) :
    let s1 := (read8 s.cfg.aStatus s).2
    let s2 := (read16 s1.cfg.aReal s1).2
    (pollSample s).2 = s1 ∨ (pollSample s).2 = s2 ∨ (pollSample s).2 = (read16 s2.cfg.aImag s2).2 := by
  unfold pollSample
  obtain ⟨_ | st, s1⟩ := read8 s.cfg.aStatus s
  · exact .inl rfl
  · dsimp only
    split
    · obtain ⟨_ | re, s2⟩ := read16 s1.cfg.aReal s1
      · exact .inr (.inl rfl)
      · dsimp only
        obtain ⟨_ | im, s3⟩ := read16 s2.cfg.aImag s2 <;> exact .inr (.inr rfl)
    · exact .inl rfl

/-- A poll for a temperature ends after the status byte or after the temperature register. -/
theorem pollTemp_snd (s : State) :
    let s1 := (read8 s.cfg.aStatus s).2
    (pollTemp s).2 = s1 ∨ (pollTemp s).2 = (read16 s1.cfg.aTemp s1).2 := by
  unfold pollTemp
  obtain ⟨_ | st, s1⟩ := read8 s.cfg.aStatus s
  · exact .inl rfl
  · dsimp only
    split
    · exact .inr rfl
    · exact .inl rfl

theorem pollSample_makesOwnFrames (s : State) : MakesOwnFrames s (pollSample s).2 := by
  have status := readStatus_makesOwnFrames s
  have real := status.trans (read16_makesOwnFrames (by simp : (read8 s.cfg.aStatus s).2.cfg.aReal ∈ _))
  obtain h | h | h := pollSample_snd s <;> rw [h]
  · exact status
  · exact real
  · exact real.trans (read16_makesOwnFrames (by simp))

theorem pollTemp_makesOwnFrames (s : State) : MakesOwnFrames s (pollTemp s).2 := by
  have status := readStatus_makesOwnFrames s
  obtain h | h := pollTemp_snd s <;> rw [h]
  · exact status
  · exact status.trans (read16_makesOwnFrames (by simp))

/-! ### TICK (43 rules R201 to R211) -/

theorem tickWait_makesOwnFrames (s : State) : MakesOwnFrames s (tickWait s) := by
  cases h : waitElapsed s.cfg s.regs
  · rw [tickWait_idle h]
    exact .silent rfl rfl rfl
  · rw [tickWait_start h]
    exact (ccWrite_makesOwnFrames (by simp)).trans (setRegs_makesOwnFrames _ _)

theorem nextPoint_makesOwnFrames {st : Byte} {s t : State} (h : nextPoint st s = .ok t) : MakesOwnFrames s t := by
  cases d : sweepDone st
  · by_cases k : selClk s.cfg s.regs.freqCur = some s.regs.clkSel
    · rw [nextPoint_increment d k] at h
      obtain rfl := Except.ok.inj h
      exact ccWrite_makesOwnFrames (by simp)
    · rw [nextPoint_change d k] at h
      cases e : programSweep s.regs.freqCur (incrementsLeft s.regs) s with
      | error f => rw [e] at h; exact nomatch h
      | ok r =>
        rw [e] at h
        obtain rfl := Except.ok.inj h
        exact programSweep_makesOwnFrames e
  · rw [nextPoint_done d] at h
    obtain rfl := Except.ok.inj h
    exact .silent rfl rfl rfl

theorem finishPoint_makesOwnFrames {st : Byte} {s t : State} (h : finishPoint st s = .ok t) : MakesOwnFrames s t := by
  by_cases o : s.regs.swNinc < s.regs.point
  · rw [finishPoint_overrun o] at h; exact nomatch h
  · rw [finishPoint_store o] at h
    have stored := writeSample_makesOwnFrames s.regs.bufRef s.regs.point (pointRecord s.regs) s
    exact (stored.trans (setRegs_makesOwnFrames _ _)).trans (nextPoint_makesOwnFrames h)

theorem takeSample_makesOwnFrames {st : Byte} {re im : U16} {s t : State} (h : takeSample st re im s = .ok t) :
    MakesOwnFrames s t := by
  have sampled := setRegs_makesOwnFrames (accumulate re im s.regs) s
  by_cases a : s.regs.avgCnt + 1 < s.regs.swAvg
  · rw [takeSample_repeat a] at h
    obtain rfl := Except.ok.inj h
    exact sampled.trans (ccWrite_makesOwnFrames (by simp))
  · rw [takeSample_complete a] at h
    exact sampled.trans (finishPoint_makesOwnFrames h)

theorem tickPoll_makesOwnFrames {s t : State} (h : tickPoll s = .ok t) : MakesOwnFrames s t := by
  have polled := pollSample_makesOwnFrames s
  unfold tickPoll at h
  generalize pollSample s = r at polled h
  obtain ⟨_ | ⟨st, re, im⟩, u⟩ := r
  · obtain rfl := Except.ok.inj h
    exact polled
  · exact polled.trans (takeSample_makesOwnFrames h)

theorem deliverTemp_makesOwnFrames (v : U16) (s : State) : MakesOwnFrames s (deliverTemp v s) :=
  (writeTemp_makesOwnFrames s.regs.tempRef (decodeTemp v) s).trans (setStatus_makesOwnFrames .finishTemp _)

theorem tickTemp_makesOwnFrames (s : State) : MakesOwnFrames s (tickTemp s) := by
  have polled := pollTemp_makesOwnFrames s
  unfold tickTemp
  generalize pollTemp s = r at polled ⊢
  obtain ⟨_ | v, u⟩ := r
  · exact polled
  · exact polled.trans (deliverTemp_makesOwnFrames v u)

theorem execTick_calibrate {s : State} (h : s.regs.status = .calibrate) :
    execTick s = .refused .calibrationEngineOutOfScope := by
  have e : (countTick (issueAs .tick s)).regs.status = .calibrate := h
  simp only [execTick, e]

theorem execTick_makesOwnFrames {s t : State} (h : execTick s = .next t) : MakesOwnFrames (issueAs .tick s) t := by
  have count : MakesOwnFrames (issueAs .tick s) (countTick (issueAs .tick s)) := setRegs_makesOwnFrames _ _
  cases st : s.regs.status with
  | uninit | idle | finishImpedance | finishTemp | finishCalib =>
    rw [execTick_quiet (by rw [st]; rfl)] at h
    obtain rfl := Host.Outcome.next.inj h
    exact count.trans (returnStatus_makesOwnFrames _)
  | measureImpedance =>
    cases w : s.regs.waitActive
    · rw [execTick_poll st w] at h
      cases e : tickPoll (countTick (issueAs .tick s)) with
      | error f => rw [e] at h; exact nomatch h
      | ok u =>
        rw [e] at h
        obtain rfl := Host.Outcome.next.inj h
        exact (count.trans (tickPoll_makesOwnFrames e)).trans (returnStatus_makesOwnFrames _)
    · rw [execTick_wait st w] at h
      obtain rfl := Host.Outcome.next.inj h
      exact (count.trans (tickWait_makesOwnFrames _)).trans (returnStatus_makesOwnFrames _)
  | measureTemp =>
    rw [execTick_temp st] at h
    obtain rfl := Host.Outcome.next.inj h
    exact (count.trans (tickTemp_makesOwnFrames _)).trans (returnStatus_makesOwnFrames _)
  | calibrate => rw [execTick_calibrate st] at h; exact nomatch h

/-! ### The commands of the host (43, 44) -/

theorem execInit_makesOwnFrames {s t : State} (h : execInit s = .next t) : MakesOwnFrames (issueAs .init s) t := by
  obtain rfl := Host.Outcome.next.inj h
  have cleared := setRegs_makesOwnFrames (initRegs s.cfg s.regs) (issueAs .init s)
  have stopped := cleared.trans (cgStop_makesOwnFrames _)
  exact ((stopped.trans (chipReset_makesOwnFrames _)).trans (setStatus_makesOwnFrames .idle _)).trans
    (setReply_makesOwnFrames _ _)

theorem execReset_makesOwnFrames {s t : State} (h : execReset s = .next t) : MakesOwnFrames (issueAs .reset s) t := by
  obtain rfl := Host.Outcome.next.inj h
  have reset := chipReset_makesOwnFrames (issueAs .reset s)
  exact ((reset.trans (setRegs_makesOwnFrames _ _)).trans (setStatus_makesOwnFrames .idle _)).trans
    (returnStatus_makesOwnFrames _)

theorem startSweep_makesOwnFrames {sw : SweepSpec} {rg : RangeSettings} {b : Handle} {s t : State}
    (h : startSweep sw rg b s = .next t) : MakesOwnFrames s t := by
  have captured := setRegs_makesOwnFrames (captureOperands sw rg b s.regs) s
  unfold startSweep at h
  cases e : programSweep sw.start sw.increments (setRegs (captureOperands sw rg b s.regs) s) with
  | error f => rw [e] at h; exact nomatch h
  | ok r =>
    have programmed := captured.trans (programSweep_makesOwnFrames e)
    rw [e] at h
    obtain ⟨_ | _, u⟩ := r
    · obtain rfl := Host.Outcome.next.inj h
      exact programmed.trans (endStart_makesOwnFrames _ _)
    · obtain rfl := Host.Outcome.next.inj h
      exact (programmed.trans (setRegs_makesOwnFrames _ _)).trans (endStart_makesOwnFrames _ _)

theorem execMeasureImpedance_makesOwnFrames {sw : SweepSpec} {rg : RangeSettings} {b : Handle} {s t : State}
    (h : execMeasureImpedance sw rg b s = .next t) : MakesOwnFrames (issueAs .measureImpedance s) t := by
  by_cases v : validateSweep s sw = .none
  · rw [execMeasureImpedance_runs v] at h
    exact startSweep_makesOwnFrames h
  · rw [execMeasureImpedance_refused rfl v] at h
    obtain rfl := Host.Outcome.next.inj h
    exact endStart_makesOwnFrames _ _

theorem temperatureCommand_makesOwnFrames (dest : Handle) (s : State) :
    MakesOwnFrames (issueAs .measureTemperature s) (temperatureCommand dest s).2 :=
  (setRegs_makesOwnFrames _ _).trans (ccWrite_makesOwnFrames (by simp))

theorem execMeasureTemperature_makesOwnFrames {dest : Handle} {s t : State}
    (h : execMeasureTemperature dest s = .next t) : MakesOwnFrames (issueAs .measureTemperature s) t := by
  by_cases u : s.regs.status = .uninit
  · rw [execMeasureTemperature_uninit u] at h
    obtain rfl := Host.Outcome.next.inj h
    exact endStart_makesOwnFrames _ _
  · cases b : isBusyStatus s.regs.status
    · rw [execMeasureTemperature_ready u b] at h
      obtain rfl := Host.Outcome.next.inj h
      have command := temperatureCommand_makesOwnFrames dest s
      split
      · exact (command.trans (setStatus_makesOwnFrames _ _)).trans (endStart_makesOwnFrames _ _)
      · exact command.trans (endStart_makesOwnFrames _ _)
    · rw [execMeasureTemperature_busy b] at h
      obtain rfl := Host.Outcome.next.inj h
      exact endStart_makesOwnFrames _ _

/-! ### The statement -/

theorem exec_makesOwnFrames {i : Instr} {s t : State} (h : IsHostOperation i) (e : exec i s = .next t) :
    MakesOwnFrames (issueAs (issuerOf i) s) t := by
  cases i with
  | init => exact execInit_makesOwnFrames e
  | reset => exact execReset_makesOwnFrames e
  | isBusy | getSweepCount =>
    obtain rfl := Host.Outcome.next.inj e
    exact .silent rfl rfl rfl
  | measureImpedance sw rg b => exact execMeasureImpedance_makesOwnFrames e
  | measureTemperature dest => exact execMeasureTemperature_makesOwnFrames e
  | calibrate =>
    obtain rfl := Host.Outcome.next.inj e
    exact endStart_makesOwnFrames _ _
  | tick => exact execTick_makesOwnFrames e
  | _ => exact absurd rfl h

/-- Settles O55: tagging the command changes neither the history nor the parameters, so what was recorded since is what was
recorded by the command. -/
theorem blockMakesOnlyItsOwnFrames : Obligations.BlockMakesOnlyItsOwnFrames :=
  fun _ _ _ h e => (exec_makesOwnFrames h e).recorded

end Sys2Proof.Machine
end

section
/-! PROOF. The fields of the formats (30 rules R97, R98, R101): a value shifted to its place is read back there, and stands
at no other place. -/

namespace Sys2Proof.Machine

/-! ### A value of `w` bits placed at bit `p` of a word of `n` bits -/

section Field

variable {w n p : Nat} (v : BitVec w)

theorem field_getLsbD (i : Nat) :
    (v.setWidth n <<< p).getLsbD i = (decide (i < n) && decide (p ≤ i) && v.getLsbD (i - p)) := by
  simp only [BitVec.getLsbD_shiftLeft, BitVec.getLsbD_setWidth, ← decide_not, Nat.not_lt]
  by_cases h : i < n
  · simp [h, show i - p < n by omega]
  · simp [h]

theorem field_getLsbD_apart {i : Nat} (h : i < p ∨ p + w ≤ i) : (v.setWidth n <<< p).getLsbD i = false := by
  rw [field_getLsbD]
  obtain below | above := h
  · simp [Nat.not_le.2 below]
  · simp [v.getLsbD_of_ge (i - p) (by omega)]

theorem field_extract_same (h : p + w ≤ n) : (v.setWidth n <<< p).extractLsb' p w = v := by
  apply BitVec.eq_of_getLsbD_eq
  intro i hi
  rw [BitVec.getLsbD_extractLsb', field_getLsbD]
  simp [hi, show p + i < n by omega]

theorem field_extract_apart {q m : Nat} (h : q + m ≤ p ∨ p + w ≤ q) : (v.setWidth n <<< p).extractLsb' q m = 0#m := by
  apply BitVec.eq_of_getLsbD_eq
  intro i hi
  rw [BitVec.getLsbD_extractLsb', field_getLsbD_apart v (by omega), Bool.and_false, BitVec.getLsbD_zero]

end Field

/-- A value below `2^p` has no bit from `p` on. -/
theorem extractLsb'_of_lt {n p q : Nat} {x : BitVec n} (h : x.toNat < 2 ^ p) (k : p ≤ q) (m : Nat) :
    x.extractLsb' q m = 0#m := by
  have small : x.toNat < 2 ^ q := h.trans_le (Nat.pow_le_pow_right Nat.two_pos k)
  apply BitVec.eq_of_toNat_eq
  rw [BitVec.extractLsb'_toNat, Nat.shiftRight_eq_div_pow, Nat.div_eq_of_lt small, Nat.zero_mod, BitVec.toNat_zero]

/-! ### The high byte of the control register (30 rule R97, 10 rule R41) -/

/-- Inside bits 3:0 the admissible positions keep `VR` and `PGA` apart. -/
theorem selectors_apart {c : Config} (h : c.WfPositions) : c.vrHi.val = c.vrLo.val + 1 ∧ c.vrLo.val + 2 ≤ 4 ∧
    (c.pgaBit.val + 1 ≤ c.vrLo.val ∨ c.vrLo.val + 2 ≤ c.pgaBit.val) := by
  obtain ⟨adjacent, hi, lo, -⟩ := h
  have := Fin.val_ne_of_ne hi
  have := Fin.val_ne_of_ne lo
  omega

section HighByte

variable {c : Config} (h : c.WfPositions) (fc : BitVec 4) (vr : BitVec 2) (pga : BitVec 1)

include h

theorem ctrlHiByte_code : (ctrlHiByte c fc vr pga).extractLsb' 4 4 = fc := by
  obtain ⟨-, vrIn, -⟩ := selectors_apart h
  rw [ctrlHiByte, BitVec.extractLsb'_or, BitVec.extractLsb'_or, field_extract_same fc (by decide),
    field_extract_apart vr (.inr vrIn), field_extract_apart pga (.inr c.pgaBit.isLt), BitVec.or_zero, BitVec.or_zero]

theorem ctrlHiByte_range : (ctrlHiByte c fc vr pga).extractLsb' c.vrLo.val 2 = vr := by
  obtain ⟨-, vrIn, apart⟩ := selectors_apart h
  rw [ctrlHiByte, BitVec.extractLsb'_or, BitVec.extractLsb'_or, field_extract_apart fc (.inl vrIn),
    field_extract_same vr (by omega), field_extract_apart pga apart.symm, BitVec.zero_or, BitVec.or_zero]

theorem ctrlHiByte_gain : (ctrlHiByte c fc vr pga).extractLsb' c.pgaBit.val 1 = pga := by
  obtain ⟨-, -, apart⟩ := selectors_apart h
  rw [ctrlHiByte, BitVec.extractLsb'_or, BitVec.extractLsb'_or, field_extract_apart fc (.inl c.pgaBit.isLt),
    field_extract_apart vr apart, field_extract_same pga (by omega), BitVec.zero_or, BitVec.zero_or]

theorem ctrlHiByte_unused {j : Fin 4} (hi : j ≠ c.vrHi) (lo : j ≠ c.vrLo) (gain : j ≠ c.pgaBit) :
    (ctrlHiByte c fc vr pga).getLsbD j.val = false := by
  obtain ⟨adjacent, -, -⟩ := selectors_apart h
  have hi := Fin.val_ne_of_ne hi
  have lo := Fin.val_ne_of_ne lo
  have gain := Fin.val_ne_of_ne gain
  rw [ctrlHiByte, BitVec.getLsbD_or, BitVec.getLsbD_or, field_getLsbD_apart fc (.inl j.isLt),
    field_getLsbD_apart vr (by omega), field_getLsbD_apart pga (by omega)]
  rfl

end HighByte

/-- Settles O17: the three fields stand apart from each other. -/
theorem highControlByteFields : Obligations.HighControlByteFields :=
  fun _ fc vr pga h => ⟨ctrlHiByte_code h fc vr pga, ctrlHiByte_range h fc vr pga, ctrlHiByte_gain h fc vr pga,
    fun _ => ctrlHiByte_unused h fc vr pga⟩

/-! ### The low byte of the control register (30 rule R98, 10 rule R42) -/

section LowByte

variable {c : Config} (h : c.WfPositions) (r k : BitVec 1)

include h

theorem ctrlLoByte_reset : (ctrlLoByte c r k).extractLsb' c.rstBit.val 1 = r := by
  obtain ⟨-, -, -, apart⟩ := h
  have apart := Fin.val_ne_of_ne apart
  rw [ctrlLoByte, BitVec.extractLsb'_or, field_extract_same r (by omega), field_extract_apart k (by omega),
    BitVec.or_zero]

theorem ctrlLoByte_clock : (ctrlLoByte c r k).extractLsb' c.clkBit.val 1 = k := by
  obtain ⟨-, -, -, apart⟩ := h
  have apart := Fin.val_ne_of_ne apart
  rw [ctrlLoByte, BitVec.extractLsb'_or, field_extract_apart r (by omega), field_extract_same k (by omega),
    BitVec.zero_or]

end LowByte

theorem ctrlLoByte_unused (c : Config) (r k : BitVec 1) {j : Fin 8} (reset : j ≠ c.rstBit) (clock : j ≠ c.clkBit) :
    (ctrlLoByte c r k).getLsbD j.val = false := by
  have reset := Fin.val_ne_of_ne reset
  have clock := Fin.val_ne_of_ne clock
  rw [ctrlLoByte, BitVec.getLsbD_or, field_getLsbD_apart r (by omega), field_getLsbD_apart k (by omega)]
  rfl

/-- Settles O18: the two fields stand apart from each other. -/
theorem lowControlByteFields : Obligations.LowControlByteFields :=
  fun c r k h => ⟨ctrlLoByte_reset h r k, ctrlLoByte_clock h r k, fun _ => ctrlLoByte_unused c r k⟩

/-! ### Counts and settling cycles (30 rule R101, 10 rules R45, R46) -/

theorem ninc16_toNat (n : U16) : (ninc16 n).toNat = n.toNat % 512 := by
  have below : n.toNat % 512 < 2 ^ 16 := by omega
  rw [ninc16, BitVec.toNat_setWidth, BitVec.extractLsb'_toNat, Nat.shiftRight_zero]
  exact Nat.mod_eq_of_lt below

theorem ninc16_of_le {n : U16} (h : n.toNat ≤ 511) : ninc16 n = n :=
  BitVec.eq_of_toNat_eq ((ninc16_toNat n).trans (Nat.mod_eq_of_lt (Nat.lt_succ_of_le h)))

section Settle

variable (c : Config) (m : SettleMult) {n : U16}

theorem settle16_count : (settle16 c m n).extractLsb' 0 9 = n.extractLsb' 0 9 := by
  rw [settle16, BitVec.extractLsb'_or, field_extract_apart _ (.inl le_rfl), BitVec.zero_or]

theorem settle16_mult (h : n.toNat < 2 ^ 9) : (settle16 c m n).extractLsb' 9 2 = multCode c m := by
  rw [settle16, BitVec.extractLsb'_or, field_extract_same _ (by decide), extractLsb'_of_lt h le_rfl, BitVec.or_zero]

theorem settle16_unused (h : n.toNat < 2 ^ 9) : (settle16 c m n).extractLsb' 11 5 = 0#5 := by
  rw [settle16, BitVec.extractLsb'_or, field_extract_apart _ (.inr (by decide)), extractLsb'_of_lt h (by decide),
    BitVec.or_zero]

end Settle

/-- Settles O19: a count up to 511 leaves bits 10:9 to the multiplier's code. -/
theorem countAndSettlingFormats : Obligations.CountAndSettlingFormats :=
  ⟨fun _ => ninc16_of_le, ninc16_toNat, fun c m _ h =>
    have small := Nat.lt_succ_of_le h
    ⟨settle16_count c m, settle16_mult c m small, settle16_unused c m small⟩⟩

end Sys2Proof.Machine
end

section
/-! PROOF. Decoder and encoder (30 rules R91 to R98, R105 to R107): each format read back, in both directions. -/

namespace Sys2Proof.Machine

/-! ### CTRLHI words (30 rules R97, R105, R106) -/

/-- The operation that a function code names, with the selectors that stand beside it. -/
def controlCommand (c : Config) (fc : BitVec 4) (vr : BitVec 2) (pga : BitVec 1) : Except DecodeError Instr :=
  if fc = c.fcInit then .ok (.ccInit vr pga)
  else if fc = c.fcStart then .ok (.ccStart vr pga)
  else if fc = c.fcIncr then .ok (.ccIncr vr pga)
  else if fc = c.fcRepeat then .ok (.ccRepeat vr pga)
  else if fc = c.fcMtemp then .ok (.ccMtemp vr pga)
  else if fc = c.fcPdown then .ok (.ccPdown vr pga)
  else if fc = c.fcStandby then .ok (.ccStandby vr pga)
  else .error (.unknownFunctionCode fc)

/-- A control-high byte decodes to the command of its fields, and only if its fields are the whole of it. -/
theorem decodeCtrlHi_eq (c : Config) (b : Byte) : decodeCtrlHi c b =
    if ctrlHiByte c (b.extractLsb' 4 4) (b.extractLsb' c.vrLo.val 2) (b.extractLsb' c.pgaBit.val 1) = b then
      controlCommand c (b.extractLsb' 4 4) (b.extractLsb' c.vrLo.val 2) (b.extractLsb' c.pgaBit.val 1)
    else .error .unusedBitSet :=
  ite_not _ _ _

theorem decodeCtrlHi_ctrlHiByte {c : Config} (h : c.WfPositions) (fc : BitVec 4) (vr : BitVec 2) (pga : BitVec 1) :
    decodeCtrlHi c (ctrlHiByte c fc vr pga) = controlCommand c fc vr pga := by
  rw [decodeCtrlHi_eq, ctrlHiByte_code h, ctrlHiByte_range h, ctrlHiByte_gain h, if_pos rfl]

theorem encode_of_controlCommand {c : Config} {fc : BitVec 4} {vr : BitVec 2} {pga : BitVec 1} {i : Instr}
    (h : controlCommand c fc vr pga = .ok i) : encode c i = .ctrlHi (ctrlHiByte c fc vr pga) := by
  unfold controlCommand at h
  split_ifs at h <;> cases h
  all_goals
    subst fc
    rfl

theorem encode_of_decodeCtrlHi {c : Config} {b : Byte} {i : Instr} (h : decodeCtrlHi c b = .ok i) :
    encode c i = .ctrlHi b := by
  rw [decodeCtrlHi_eq] at h
  split_ifs at h with whole
  exact (encode_of_controlCommand h).trans (congrArg PortWord.ctrlHi whole)

/-! ### CTRLLO words (30 rules R98, R106) -/

theorem decodeCtrlLo_eq (c : Config) (b : Byte) : decodeCtrlLo c b =
    if ctrlLoByte c (b.extractLsb' c.rstBit.val 1) (b.extractLsb' c.clkBit.val 1) = b then
      .ok (.clWrite (b.extractLsb' c.rstBit.val 1) (b.extractLsb' c.clkBit.val 1))
    else .error .unusedBitSet :=
  ite_not _ _ _

theorem decodeCtrlLo_ctrlLoByte {c : Config} (h : c.WfPositions) (r k : BitVec 1) :
    decodeCtrlLo c (ctrlLoByte c r k) = .ok (.clWrite r k) := by
  rw [decodeCtrlLo_eq, ctrlLoByte_reset h, ctrlLoByte_clock h, if_pos rfl]

theorem encode_of_decodeCtrlLo {c : Config} {b : Byte} {i : Instr} (h : decodeCtrlLo c b = .ok i) :
    encode c i = .ctrlLo b := by
  rw [decodeCtrlLo_eq] at h
  split_ifs at h with whole
  obtain rfl := Except.ok.inj h
  exact congrArg PortWord.ctrlLo whole

/-! ### XPORT words (30 rules R95, R96, R107) -/

theorem decodeXport_byteWrite {c : Config} {a : Byte} (h : directAddress c a) (v : Byte) :
    decodeXport c [⟨[a, v], 0⟩] = .ok (.write8 a v) := by
  obtain ⟨setPointer, blockWrite, blockRead⟩ := h
  simp [decodeXport, setPointer, blockWrite, blockRead]

theorem decodeXport_pointerSet (c : Config) (a : Byte) : decodeXport c [pointerFrame c a] = .ok (.setAddr a) :=
  if_pos rfl

/-- After a pointer set the second frame says which operation it is. -/
theorem decodeXport_twoPhase (c : Config) (a : Byte) (f : Frame) :
    decodeXport c [pointerFrame c a, f] = decodeDataFrame c a f :=
  if_pos rfl

theorem bytes16_joined (v : U16) : v.extractLsb' 8 8 ++ v.extractLsb' 0 8 = v :=
  BitVec.extractLsb'_append_extractLsb'

theorem bytes24_joined (v : U24) : v.extractLsb' 16 8 ++ v.extractLsb' 8 8 ++ v.extractLsb' 0 8 = v := by
  rw [BitVec.extractLsb'_append_extractLsb'_eq_extractLsb' (x := v) (start₁ := 8) (len₁ := 8) rfl]
  exact BitVec.extractLsb'_append_extractLsb'

theorem bytes16_append (h l : Byte) : bytes16 (h ++ l) = [h, l] := by
  rw [bytes16, BitVec.extractLsb'_append_eq_left, BitVec.extractLsb'_append_eq_right]

theorem bytes24_append (h m l : Byte) : bytes24 (h ++ m ++ l) = [h, m, l] := by
  have high : (h ++ m ++ l).extractLsb' 16 8 = h :=
    (BitVec.extractLsb'_append_eq_of_le (by decide)).trans BitVec.extractLsb'_append_eq_left
  have middle : (h ++ m ++ l).extractLsb' 8 8 = m :=
    (BitVec.extractLsb'_append_eq_of_le le_rfl).trans BitVec.extractLsb'_append_eq_right
  rw [bytes24, high, middle, BitVec.extractLsb'_append_eq_right]

theorem decodeDataFrame_write16 (c : Config) (a : Byte) (v : U16) :
    decodeDataFrame c a ⟨c.cmdBlockWrite :: 2#8 :: bytes16 v, 0⟩ = .ok (.write16 a v) := by
  simp [decodeDataFrame, bytes16, bytes16_joined]

theorem decodeDataFrame_write24 (c : Config) (a : Byte) (v : U24) :
    decodeDataFrame c a ⟨c.cmdBlockWrite :: 3#8 :: bytes24 v, 0⟩ = .ok (.write24 a v) := by
  simp [decodeDataFrame, bytes24, bytes24_joined]

theorem decodeDataFrame_read16 (c : Config) (a : Byte) :
    decodeDataFrame c a ⟨[c.cmdBlockRead, 2#8], 2⟩ = .ok (.read16 a) := by
  simp [decodeDataFrame]

theorem encode_of_decodeDataFrame {c : Config} {a : Byte} {f : Frame} {i : Instr}
    (h : decodeDataFrame c a f = .ok i) : encode c i = .xport [pointerFrame c a, f] := by
  obtain ⟨sent, recv⟩ := f
  unfold decodeDataFrame at h
  dsimp only at h
  split at h
  · cases h
    rfl
  · split_ifs at h with command count
    cases h
    rw [not_not.1 command, not_not.1 count]
    rfl
  · split_ifs at h with command count
    cases h
    rw [not_not.1 command, not_not.1 count, encode, bytes16_append]
  · split_ifs at h with command count
    cases h
    rw [not_not.1 command, not_not.1 count, encode, bytes24_append]
  · exact nomatch h

theorem encode_of_decodeXport {c : Config} {frames : List Frame} {i : Instr} (h : decodeXport c frames = .ok i) :
    encode c i = .xport frames := by
  unfold decodeXport at h
  split at h
  · split_ifs at h with pointer
    · cases h
      rw [pointer]
      rfl
    · cases h
      rfl
  · split_ifs at h with pointer
    rw [pointer]
    exact encode_of_decodeDataFrame h
  · exact nomatch h

/-! ### The statements -/

/-- Settles O1: each format is read back by its own lemma; the seven control-high codes differ from each other. -/
theorem decodeEncodeRoundTrip : Obligations.DecodeEncodeRoundTrip := by
  intro c i ⟨_, ⟨codes, _⟩, positions, _⟩ wf
  cases i with
  | init | reset | isBusy | measureImpedance | getSweepCount | measureTemperature | calibrate | tick => rfl
  | setAddr a => exact decodeXport_pointerSet c a
  | write8 a v => exact decodeXport_byteWrite wf v
  | write16 a v => exact (decodeXport_twoPhase c a _).trans (decodeDataFrame_write16 c a v)
  | write24 a v => exact (decodeXport_twoPhase c a _).trans (decodeDataFrame_write24 c a v)
  | read8 a => exact decodeXport_twoPhase c a _
  | read16 a => exact (decodeXport_twoPhase c a _).trans (decodeDataFrame_read16 c a)
  | clWrite r k => exact decodeCtrlLo_ctrlLoByte positions r k
  | ccInit vr pga | ccStart vr pga | ccIncr vr pga | ccRepeat vr pga | ccMtemp vr pga | ccPdown vr pga
  | ccStandby vr pga =>
    refine (decodeCtrlHi_ctrlHiByte positions _ vr pga).trans ?_
    simp only [Config.functionCodes] at codes
    grind [controlCommand]

/-- Settles O2: on each port but the host's, the encoder undoes the decoder. -/
theorem decodedBusWordIsItsEncoding : Obligations.DecodedBusWordIsItsEncoding := by
  intro c w i notHost h
  cases w with
  | hostCmd code ops => exact absurd rfl (notHost code ops)
  | tickReq =>
    obtain rfl := Except.ok.inj h
    rfl
  | xport frames => exact encode_of_decodeXport h
  | ctrlHi b => exact encode_of_decodeCtrlHi h
  | ctrlLo b => exact encode_of_decodeCtrlLo h

/-- Settles O3: the nine words are closed, and the decoder runs on them. -/
theorem specWordsDecode : Obligations.SpecWordsDecode :=
  ⟨rfl, rfl, rfl, rfl, rfl, rfl, rfl, rfl, rfl⟩

end Sys2Proof.Machine
end

section
/-! PROOF. Every operation is answered (42 rule R176, 60 rule R243), CALIBRATE with Error, and none enters the states of the
engine out of scope (43 rule R199). -/

namespace Sys2Proof.Machine

open Sys2Proof.Claims

/-! ### MEASURE_IMPEDANCE cannot fault: the validation makes PROGRAM_SWEEP's guards pass (42 rule R176) -/

theorem sweepArgumentsOk_iff (c : Config) (sw : SweepSpec) :
    sweepArgumentsOk c sw = true ↔ ∃ k, OperandsAdmissible c sw k := by
  unfold sweepArgumentsOk OperandsAdmissible
  cases selClk c sw.start with
  | none => simp
  | some k => simp [and_assoc]

theorem validateSweep_none {s : State} {sw : SweepSpec} (h : validateSweep s sw = .none) :
    ∃ k, OperandsAdmissible s.cfg sw k := by
  rw [← sweepArgumentsOk_iff]
  unfold validateSweep at h
  split_ifs at h with _ _ ok
  exact ok

theorem programSweep_captured {s : State} {sw : SweepSpec} {k : ClkIdx} (h : OperandsAdmissible s.cfg sw k)
    (rg : RangeSettings) (b : Handle) : programSweep sw.start sw.increments (setRegs (captureOperands sw rg b s.regs) s) =
      .ok (programSteps k sw.start sw.increments (setRegs (captureOperands sw rg b s.regs) s)) := by
  obtain ⟨band, -, -, -, startFits, incrementFits, -⟩ := h
  exact programSweep_ok band (Bool.and_eq_true_iff.2 ⟨startFits, incrementFits⟩)

theorem startSweep_answered {s : State} {sw : SweepSpec} {k : ClkIdx} (h : OperandsAdmissible s.cfg sw k)
    (rg : RangeSettings) (b : Handle) : ∃ t, startSweep sw rg b s = .next t := by
  unfold startSweep
  rw [programSweep_captured h]
  generalize programSteps k sw.start sw.increments (setRegs (captureOperands sw rg b s.regs) s) = r
  obtain ⟨_ | _, u⟩ := r <;> exact ⟨_, rfl⟩

theorem execMeasureImpedance_answered (sw : SweepSpec) (rg : RangeSettings) (b : Handle) (s : State) :
    ∃ t, execMeasureImpedance sw rg b s = .next t := by
  by_cases v : validateSweep s sw = .none
  · obtain ⟨k, h⟩ := validateSweep_none v
    rw [execMeasureImpedance_runs v]
    exact startSweep_answered (s := issueAs .measureImpedance s) h rg b
  · exact ⟨_, execMeasureImpedance_refused rfl v⟩

theorem execMeasureTemperature_answered (dest : Handle) (s : State) : ∃ t, execMeasureTemperature dest s = .next t := by
  by_cases u : s.regs.status = .uninit
  · exact ⟨_, execMeasureTemperature_uninit u⟩
  · cases b : isBusyStatus s.regs.status
    · exact ⟨_, execMeasureTemperature_ready u b⟩
    · exact ⟨_, execMeasureTemperature_busy b⟩

/-! ### TICK outside Calibrate (43 rule R203) -/

theorem endTick_answered (r : Except Fault State) : (∃ t, endTick r = .next t) ∨ ∃ f, endTick r = .fault f := by
  cases r with
  | ok t => exact .inl ⟨_, rfl⟩
  | error f => exact .inr ⟨_, rfl⟩

theorem execTick_answered {s : State} (h : s.regs.status ≠ .calibrate) :
    (∃ t, execTick s = .next t) ∨ ∃ f, execTick s = .fault f := by
  cases st : s.regs.status with
  | uninit | idle | finishImpedance | finishTemp | finishCalib => exact .inl ⟨_, execTick_quiet (by rw [st]; rfl)⟩
  | measureImpedance =>
    cases w : s.regs.waitActive
    · rw [execTick_poll st w]
      exact endTick_answered _
    · exact .inl ⟨_, execTick_wait st w⟩
  | measureTemp => exact .inl ⟨_, execTick_temp st⟩
  | calibrate => exact absurd st h

theorem exec_sequencer_answered {i : Instr} (h : issuerOf i = .sequencer) (s : State) : ∃ t, exec i s = .next t := by
  obtain ⟨u, rep, e, -⟩ := exec_sequencer h s
  exact ⟨_, e⟩

/-- Settles O35: only TICK can reach a fault, through PROGRAM_SWEEP or the caller's array. -/
theorem everyOperationIsAnswered : Obligations.EveryOperationIsAnswered := by
  intro i s
  refine ⟨fun n => ?_, fun e h => by rw [e]; exact execTick_answered h⟩
  cases i with
  | init | reset | isBusy | getSweepCount | calibrate => exact ⟨_, rfl⟩
  | measureImpedance sw rg b => exact execMeasureImpedance_answered sw rg b s
  | measureTemperature dest => exact execMeasureTemperature_answered dest s
  | tick => exact absurd rfl n
  | _ => exact exec_sequencer_answered rfl s

/-! ### STATUS after an operation (10 rule R22) -/

/-- STATUS is left alone or becomes one of the states in scope (43 rule R199). -/
def StatusInScope (v w : Status) : Prop := w = v ∨ w ≠ .calibrate ∧ w ≠ .finishCalib

theorem ProgramRegs.status {c : Config} {k : ClkIdx} {r q : Regs} {ok : Bool} (h : ProgramRegs c k r ok q) :
    q.status = r.status :=
  congrArg Prod.fst h.control

theorem StartRegs.statusInScope {c : Config} {sw : SweepSpec} {rg : RangeSettings} {b : Handle} {r q : Regs} {rep : Reply}
    (h : StartRegs c r (captureOperands sw rg b r) rep q) : StatusInScope r.status q.status := by
  cases h with
  | rejected => exact .inl rfl
  | failed _ h => exact .inl h.status
  | started => exact .inr ⟨nofun, nofun⟩

theorem TemperatureRegs.statusInScope {dest : Handle} {r q : Regs} {rep : Reply} (h : TemperatureRegs dest r rep q) :
    StatusInScope r.status q.status := by
  cases h with
  | rejected | failed => exact .inl rfl
  | started => exact .inr ⟨nofun, nofun⟩

theorem TickRegs.statusInScope {c : Config} {r q : Regs} (h : TickRegs c r q) : StatusInScope r.status q.status := by
  cases h with
  | onlyCounted | waitOver | sampled => exact .inl rfl
  | temperature => exact .inr ⟨nofun, nofun⟩
  | stored _ _ h =>
    cases h with
    | finished => exact .inr ⟨nofun, nofun⟩
    | increment => exact .inl rfl
    | clockChange h => exact .inl h.status

theorem exec_statusInScope {i : Instr} {s t : State} (e : exec i s = .next t) :
    StatusInScope s.regs.status t.regs.status := by
  cases i with
  | init => rw [(execInit_regs e).2]; exact .inr ⟨nofun, nofun⟩
  | reset => rw [(execReset_regs e).2]; exact .inr ⟨nofun, nofun⟩
  | measureImpedance => exact (execMeasureImpedance_regs e).2.statusInScope
  | measureTemperature => exact (execMeasureTemperature_regs e).2.statusInScope
  | tick => exact (execTick_regs e).2.statusInScope
  | _ => exact .inl (congrArg Regs.status (exec_keeps_regs rfl e).2)

/-! ### CALIBRATE (93 U5, 43 rule R199) -/

/-- Ending a command that did nothing else changes what it returned and recorded, nothing else. -/
theorem endStart_nothingChanged (cause : Cause) (i : Issuer) (s : State) :
    NothingChanged s (endStart cause (issueAs i s)) :=
  ⟨⟨⟨rfl, rfl⟩, rfl, rfl, fun _ _ => rfl, fun _ => rfl⟩, rfl, fun _ _ => rfl, rfl, rfl⟩

theorem endStart_recorded (cause : Cause) (i : Issuer) (s : State) :
    Recorded i [.ended (resultOf cause) cause] s (endStart cause (issueAs i s)) := rfl

/-- Settles O37: CALIBRATE only ends, and STATUS never becomes a state of the engine out of scope. -/
theorem calibrateAnswersErrorAndEntersNoState : Obligations.CalibrateAnswersErrorAndEntersNoState := by
  refine ⟨fun s => ⟨_, rfl, rfl, endStart_nothingChanged _ _ s, endStart_recorded _ _ s⟩,
    fun _ => execTick_calibrate, fun i s t e => ?_⟩
  obtain same | ⟨notCalibrate, notFinishCalib⟩ := exec_statusInScope e
  · rw [same]
    exact ⟨id, id⟩
  · exact ⟨fun h => absurd h notCalibrate, fun h => absurd h notFinishCalib⟩

end Sys2Proof.Machine
end

section
/-! PROOF. The transport operations presented on the sequencer's port (40 rules R120 to R129): what one use of the bus says
in the words of the statements, where the bytes of a block arrive, and the six operations. -/

namespace Sys2Proof.Machine

open Sys2Proof.Claims

/-! ### A use of the bus by the operation of issuer `i`, whose reply is then delivered -/

section Presented

variable {P : Byte → Prop} {n : Nat} {es : List EventKind} {i : Issuer} {s u : State}

theorem BusOnly.onlyTheBus (h : BusOnly P n es (issueAs i s) u) (rep : Reply) : OnlyTheBus s (setReply rep u) :=
  ⟨⟨h.cfg, h.requests⟩, h.regs, h.gen, fun ref k => congrArg (Memory.read · (bufAddress ref k)) h.buf,
    fun ref => congrArg (Memory.read · (tempAddress ref)) h.temp⟩

theorem BusOnly.recorded (h : BusOnly P n es (issueAs i s) u) (rep : Reply) : Recorded i es s (setReply rep u) :=
  h.history

theorem BusOnly.drew (h : BusOnly P n es (issueAs i s) u) (rep : Reply) : Drew n s (setReply rep u) :=
  ⟨h.answers, h.draws⟩

theorem BusOnly.bytesKept (h : BusOnly P n es (issueAs i s) u) (rep : Reply) :
    ChipBytesKeptOutside P s (setReply rep u) :=
  h.bytes

end Presented

theorem chipBytesKeptOutside_mono {P Q : Byte → Prop} {s t : State} (h : ChipBytesKeptOutside P s t)
    (w : ∀ x, P x → Q x) : ChipBytesKeptOutside Q s t :=
  fun x hx => h x fun p => hx (w x p)

/-! ### SETADDR and WRITE8: one frame -/

theorem framePointerSet_ptr (a : Byte) (s : State) :
    (framePointerSet a s).2.chip.ptr = a ∨ (framePointerSet a s).2.chip.ptr = s.chip.ptr := by
  rw [framePointerSet_chip]
  split
  · exact .inl rfl
  · exact .inr rfl

/-- Settles O8: SETADDR is the pointer-set frame. -/
theorem setAddrSetsThePointer : Obligations.SetAddrSetsThePointer := by
  intro a s
  have bus := framePointerSet_busOnly a (issueAs .sequencer s)
  exact ⟨_, rfl, congrArg Reply.verdict (framePointerSet_fst a _), bus.recorded _, bus.drew _,
    fun ok => setAddr_ptr (s := issueAs .sequencer s) ok, fun _ => framePointerSet_ptr a (issueAs .sequencer s),
    bus.bytesKept _, bus.onlyTheBus _⟩

/-- A byte write leaves its byte or, after FAIL, perhaps what was there (40 rule R129). -/
theorem frameByteWrite_byteAt (a v : Byte) (s : State) : (frameByteWrite a v s).2.chip.byteAt a =
    if (upcoming s 0).ok || decide (0 < (upcoming s 0).taken) then some v else s.chip.byteAt a := by
  rw [frameByteWrite_chip, setPtr_byteAt]
  split
  · rw [receiveAt_byteAt, if_pos rfl]
  · rfl

theorem write8_byteWritten (i : Issuer) (a v : Byte) (s : State) (rep : Reply) :
    ByteWritten i a v s (setReply rep (write8 a v (issueAs i s)).2) := by
  have bus := frameByteWrite_busOnly a v (issueAs i s)
  have byte := frameByteWrite_byteAt a v (issueAs i s)
  refine ⟨bus.recorded rep, bus.drew rep, fun ok => ?_, fun _ => ?_, bus.bytesKept rep⟩
  · have ok' : (upcoming (issueAs i s) 0).ok = true := ok
    rwa [ok', Bool.true_or, if_pos rfl] at byte
  · split at byte
    · exact .inl byte
    · exact .inr byte

/-- Settles O9: WRITE8 is the byte-write frame. -/
theorem write8StoresOneByte : Obligations.Write8StoresOneByte := fun a v s =>
  ⟨_, rfl, congrArg Reply.verdict (frameByteWrite_fst a v _), write8_byteWritten .sequencer a v s _,
    (frameByteWrite_busOnly a v (issueAs .sequencer s)).onlyTheBus _⟩

/-! ### Where the bytes of a block arrive (20 rule R62) -/

/-- The `n` addresses from `a` on, round the end of the register space. -/
def InBlock (a : Byte) (n : Nat) (x : Byte) : Prop := ∃ i, i < n ∧ x = a + BitVec.ofNat 8 i

theorem inBlock_one {a x : Byte} (h : InBlock a 1 x) : x = a := by
  obtain ⟨i, hi, rfl⟩ := h
  interval_cases i
  exact BitVec.add_zero a

theorem inBlock_two {a x : Byte} (h : InBlock a 2 x) : x = a ∨ x = a + 1 := by
  obtain ⟨i, hi, rfl⟩ := h
  interval_cases i
  · exact .inl (BitVec.add_zero a)
  · exact .inr rfl

theorem inBlock_three {a x : Byte} (h : InBlock a 3 x) : x = a ∨ x = a + 1 ∨ x = a + 2 := by
  obtain ⟨i, hi, rfl⟩ := h
  interval_cases i
  · exact .inl (BitVec.add_zero a)
  · exact .inr (.inl rfl)
  · exact .inr (.inr rfl)

/-- No byte of a block overwrites an earlier one, as long as the block is no longer than the register space. -/
theorem receiveBlock_byteAt (bs : List Byte) (c : Chip) (short : bs.length ≤ 256) (i : Nat) (h : i < bs.length) :
    (receiveBlock bs c).byteAt (c.ptr + BitVec.ofNat 8 i) = some bs[i] := by
  induction bs generalizing c i with
  | nil => exact absurd h (Nat.not_lt_zero i)
  | cons b bs ih =>
    rw [List.length_cons] at short h
    rw [receiveBlock]
    cases i with
    | zero =>
      rw [receiveBlock_byteAt_other]
      · simp [receiveAt_byteAt]
      · intro j hj
        rw [setPtr_ptr]
        bv_omega
    | succ i =>
      have next := ih (setPtr (c.ptr + 1) (receiveAt c.ptr b c)) (by omega) i (by omega)
      rwa [setPtr_ptr, BitVec.add_assoc, BitVec.add_comm 1, show (1 : Byte) = BitVec.ofNat 8 1 from rfl,
        ← BitVec.ofNat_add] at next

/-- From `s` to `t` the chip has received the bytes `bs` from the address `a` on, and nothing elsewhere. -/
structure BlockReceived (a : Byte) (bs : List Byte) (s t : State) : Prop where
  stored : ∀ (i : Nat) (h : i < bs.length), chipByte t (a + BitVec.ofNat 8 i) = some bs[i]
  kept : ChipBytesKeptOutside (InBlock a bs.length) s t

theorem blockReceived_of_chip {a : Byte} {bs : List Byte} {s t : State} (short : bs.length ≤ 256)
    (h : t.chip = receiveBlock bs (setPtr a s.chip)) : BlockReceived a bs s t where
  stored i hi := by
    rw [chipByte_eq, h]
    exact receiveBlock_byteAt bs (setPtr a s.chip) short i hi
  kept x hx := by
    rw [chipByte_eq, h]
    exact receiveBlock_byteAt_other bs (setPtr a s.chip) x fun i hi e => hx ⟨i, hi, e⟩

namespace BlockReceived

variable {a b0 b1 b2 : Byte} {bs : List Byte} {s t : State}

theorem nothing (h : BlockReceived a [] s t) : ChipBytesKeptOutside (fun _ => False) s t :=
  chipBytesKeptOutside_mono h.kept fun _ ⟨_, hi, _⟩ => Nat.not_lt_zero _ hi

theorem first (h : BlockReceived a (b0 :: bs) s t) : chipByte t a = some b0 := by
  have byte := h.stored 0 (Nat.zero_lt_succ _)
  rwa [BitVec.add_zero] at byte

theorem second (h : BlockReceived a (b0 :: b1 :: bs) s t) : chipByte t (a + 1) = some b1 :=
  h.stored 1 (by simp)

theorem third (h : BlockReceived a (b0 :: b1 :: b2 :: bs) s t) : chipByte t (a + 2) = some b2 :=
  h.stored 2 (by simp)

end BlockReceived

/-! ### WRITE16 and WRITE24: a pointer set, then a block write (40 rules R123, R125, R126) -/

/-- A block-write frame of the bytes `bs` (30 rule R95). -/
def blockWriteOf (s : State) (a : Byte) (bs : List Byte) (ok : Bool) : EventKind :=
  frameOf s .blockWrite a (s.cfg.cmdBlockWrite :: BitVec.ofNat 8 bs.length :: bs) [] ok

/-- The effect of a presented two-phase write of the bytes `bs` for register `a`. -/
structure BlockWritten (a : Byte) (bs : List Byte) (s t : State) : Prop where
  reply : t.reply = .verdict (verdict s 0 && verdict s 1)
  onlyTheBus : OnlyTheBus s t
  kept : ChipBytesKeptOutside (InBlock a bs.length) s t
  pointerFailed : verdict s 0 = false → Recorded .sequencer [pointerSetOf s a false] s t ∧ Drew 1 s t ∧
    ChipBytesKeptOutside (fun _ => False) s t ∧ (t.chip.ptr = a ∨ t.chip.ptr = s.chip.ptr)
  sent : verdict s 0 = true →
    Recorded .sequencer [pointerSetOf s a true, blockWriteOf s a bs (verdict s 1)] s t ∧ Drew 2 s t
  whole : verdict s 0 = true → verdict s 1 = true →
    t.chip.ptr = a + BitVec.ofNat 8 bs.length ∧ BlockReceived a bs s t
  cut : verdict s 0 = true → verdict s 1 = false → ∃ k, BlockReceived a (bs.take k) s t

/-- The state after a presented two-phase write: its verdict is the reply. -/
def blockWritten (a : Byte) (bs : List Byte) (s : State) : State :=
  setReply (.verdict (andThen (frameBlockWrite a bs) (setAddr a (issueAs .sequencer s))).1)
    (andThen (frameBlockWrite a bs) (setAddr a (issueAs .sequencer s))).2

theorem exec_write16 (a : Byte) (v : U16) (s : State) :
    exec (.write16 a v) s = .next (blockWritten a (bytes16 v) s) := rfl

theorem exec_write24 (a : Byte) (v : U24) (s : State) :
    exec (.write24 a v) s = .next (blockWritten a (bytes24 v) s) := rfl

/-- A pointer set that fails is the operation's only frame. -/
theorem framePointerSet_failed {s : State} (h : verdict s 0 = false) (i : Issuer) (a : Byte) :
    BusOnly (fun _ => False) 1 [pointerSetOf s a false] (issueAs i s) (framePointerSet a (issueAs i s)).2 := by
  have bus := framePointerSet_busOnly a (issueAs i s)
  rwa [show (upcoming (issueAs i s) 0).ok = false from h] at bus

theorem blockWritten_failed (a : Byte) (bs : List Byte) {s : State} (h : verdict s 0 = false) :
    BlockWritten a bs s (blockWritten a bs s) := by
  have bus := framePointerSet_failed h .sequencer a
  rw [blockWritten, blockWrite_fail a bs (s := issueAs .sequencer s) h]
  exact
    { reply := by rw [h]; rfl
      onlyTheBus := bus.onlyTheBus _
      kept := chipBytesKeptOutside_mono (bus.bytesKept _) fun _ => False.elim
      pointerFailed := fun _ =>
        ⟨bus.recorded _, bus.drew _, bus.bytesKept _, framePointerSet_ptr a (issueAs .sequencer s)⟩
      sent := fun ok => absurd ok (by simp [h])
      whole := fun ok => absurd ok (by simp [h])
      cut := fun ok => absurd ok (by simp [h]) }

theorem blockWritten_ok (a : Byte) (bs : List Byte) (short : bs.length ≤ 256) {s : State} (h : verdict s 0 = true) :
    BlockWritten a bs s (blockWritten a bs s) := by
  obtain ⟨answer, bus⟩ := blockWrite_ok a bs (s := issueAs .sequencer s) h
  have chip : (blockWritten a bs s).chip =
      receiveBlock (if verdict s 1 then bs else bs.take (upcoming s 1).taken) (setPtr a s.chip) :=
    blockWrite_chip a bs (s := issueAs .sequencer s) h
  exact
    { reply := by rw [h, Bool.true_and]; exact congrArg Reply.verdict answer
      onlyTheBus := bus.onlyTheBus _
      kept := bus.bytesKept _
      pointerFailed := fun fail => absurd fail (by simp [h])
      sent := fun _ => ⟨bus.recorded _, bus.drew _⟩
      whole := fun _ ok => by
        rw [ok, if_pos rfl] at chip
        exact ⟨by rw [chip, receiveBlock_ptr, setPtr_ptr], blockReceived_of_chip short chip⟩
      cut := fun _ fail => by
        rw [fail, if_neg Bool.false_ne_true] at chip
        exact ⟨_, blockReceived_of_chip ((List.length_take_le' _ bs).trans short) chip⟩ }

theorem blockWritten_spec (a : Byte) (bs : List Byte) (short : bs.length ≤ 256) (s : State) :
    BlockWritten a bs s (blockWritten a bs s) := by
  cases h : verdict s 0
  · exact blockWritten_failed a bs h
  · exact blockWritten_ok a bs short h

/-- Settles O10: of two bytes, a failed second frame has brought none, the high one or both. -/
theorem write16StoresHighByteFirst : Obligations.Write16StoresHighByteFirst := by
  intro a v s
  have w := blockWritten_spec a (bytes16 v) (by simp [bytes16]) s
  refine ⟨_, exec_write16 a v s, w.reply, w.onlyTheBus, chipBytesKeptOutside_mono w.kept fun _ => inBlock_two,
    w.pointerFailed, w.sent, fun h0 h1 => ?_, fun h0 h1 => ?_⟩
  · obtain ⟨ptr, received⟩ := w.whole h0 h1
    exact ⟨ptr, received.first, received.second⟩
  · obtain ⟨k, received⟩ := w.cut h0 h1
    match k, received with
    | 0, received => exact .inl received.nothing
    | 1, received => exact .inr (.inl ⟨received.first, chipBytesKeptOutside_mono received.kept fun _ => inBlock_one⟩)
    | _ + 2, received => exact .inr (.inr ⟨received.first, received.second⟩)

/-- Settles O11: of three bytes, a failed second frame has brought none, one, two or all. -/
theorem write24StoresThreeBytes : Obligations.Write24StoresThreeBytes := by
  intro a v s
  have w := blockWritten_spec a (bytes24 v) (by simp [bytes24]) s
  refine ⟨_, exec_write24 a v s, w.reply, w.onlyTheBus, chipBytesKeptOutside_mono w.kept fun _ => inBlock_three,
    w.pointerFailed, w.sent, fun h0 h1 => ?_, fun h0 h1 => ?_⟩
  · obtain ⟨ptr, received⟩ := w.whole h0 h1
    exact ⟨ptr, received.first, received.second, received.third⟩
  · obtain ⟨k, received⟩ := w.cut h0 h1
    match k, received with
    | 0, received => exact .inl received.nothing
    | 1, received => exact .inr (.inl ⟨received.first, chipBytesKeptOutside_mono received.kept fun _ => inBlock_one⟩)
    | 2, received => exact .inr (.inr (.inl
        ⟨received.first, received.second, chipBytesKeptOutside_mono received.kept fun _ => inBlock_two⟩))
    | _ + 3, received => exact .inr (.inr (.inr ⟨received.first, received.second, received.third⟩))

/-! ### READ8 and READ16: a pointer set, then the bytes come back (40 rules R123, R127, R128) -/

section Reads

variable {s : State}

/-- READ8 with its pointer set OK, said with the statements' frames: the byte receive shows the byte only after OK. -/
theorem read8_frames (i : Issuer) (a : Byte) (h : verdict s 0 = true) :
    (read8 a (issueAs i s)).1 = (if verdict s 1 then some (upcoming s 1).b0 else none) ∧
    BusOnly (fun _ => False) 2
      [pointerSetOf s a true, byteReceiveOf s a (if verdict s 1 then [(upcoming s 1).b0] else []) (verdict s 1)]
      (issueAs i s) (read8 a (issueAs i s)).2 :=
  read8_ok a (s := issueAs i s) h

/-- READ16 with its pointer set OK, said with the statements' frames: the block read shows the bytes only after OK. -/
theorem read16_frames (i : Issuer) (a : Byte) (h : verdict s 0 = true) :
    (read16 a (issueAs i s)).1 = (if verdict s 1 then some (wordAnswer s 1) else none) ∧
    BusOnly (fun _ => False) 2
      [pointerSetOf s a true,
       blockReadOf s a (if verdict s 1 then [(upcoming s 1).b0, (upcoming s 1).b1] else []) (verdict s 1)]
      (issueAs i s) (read16 a (issueAs i s)).2 :=
  read16_ok a (s := issueAs i s) h

end Reads

/-- Settles O12, by the three cases of the two verdicts. -/
theorem read8ReturnsTheChipsByte : Obligations.Read8ReturnsTheChipsByte := by
  intro a s
  refine ⟨_, rfl, ?_⟩
  cases h0 : verdict s 0
  · have bus := framePointerSet_failed h0 .sequencer a
    rw [read8_fail a (s := issueAs .sequencer s) h0]
    exact ⟨rfl, bus.onlyTheBus _, bus.bytesKept _, fun _ => ⟨bus.recorded _, bus.drew _⟩, nofun, nofun⟩
  · obtain ⟨value, bus⟩ := read8_frames .sequencer a h0
    refine ⟨congrArg Reply.byte value, bus.onlyTheBus _, bus.bytesKept _, nofun, fun _ fail => ?_, fun _ ok => ?_⟩
    · rw [fail] at bus
      exact ⟨bus.recorded _, bus.drew _⟩
    · rw [ok] at bus
      exact ⟨bus.recorded _, bus.drew _⟩

/-- Settles O13, by the three cases of the two verdicts. -/
theorem read16ReturnsHighByteFirst : Obligations.Read16ReturnsHighByteFirst := by
  intro a s
  refine ⟨_, rfl, ?_⟩
  cases h0 : verdict s 0
  · have bus := framePointerSet_failed h0 .sequencer a
    rw [read16_fail a (s := issueAs .sequencer s) h0]
    exact ⟨rfl, bus.onlyTheBus _, bus.bytesKept _, fun _ => ⟨bus.recorded _, bus.drew _⟩, nofun, nofun⟩
  · obtain ⟨value, bus⟩ := read16_frames .sequencer a h0
    refine ⟨congrArg Reply.word value, bus.onlyTheBus _, bus.bytesKept _, nofun, fun _ fail => ?_, fun _ ok => ?_⟩
    · rw [fail] at bus
      exact ⟨bus.recorded _, bus.drew _⟩
    · rw [ok] at bus
      exact ⟨read16_ptr a (s := issueAs .sequencer s) h0 ok, bus.recorded _, bus.drew _⟩

end Sys2Proof.Machine
end

section
/-! PROOF. The frequency codec (41 rules R150 to R155): what FREQ2REG is, as a floor, and what follows from that. -/

namespace Sys2Proof.Machine

/-! ### FREQ2REG (41 rule R150) -/

section Freq2Reg

variable {c : Nat}

/-- The floor said by its upper side: a number is above the code exactly when its multiple of `c` is above `2^29 f`. -/
theorem freq2reg_lt_iff (hc : 0 < c) {f n : Nat} : freq2reg f c < n ↔ 2 ^ 29 * f < n * c :=
  Nat.div_lt_iff_lt_mul hc

/-- The floor said by its lower side: a number is at most the code exactly when its multiple of `c` is at most `2^29 f`. -/
theorem le_freq2reg_iff (hc : 0 < c) {f n : Nat} : n ≤ freq2reg f c ↔ n * c ≤ 2 ^ 29 * f :=
  Nat.le_div_iff_mul_le hc

theorem freq2reg_mul_le (hc : 0 < c) (f : Nat) : freq2reg f c * c ≤ 2 ^ 29 * f :=
  (le_freq2reg_iff hc).mp le_rfl

theorem lt_freq2reg_add_one_mul (hc : 0 < c) (f : Nat) : 2 ^ 29 * f < (freq2reg f c + 1) * c :=
  (freq2reg_lt_iff hc).mp (Nat.lt_add_one _)

theorem freq2reg_zero (c : Nat) : freq2reg 0 c = 0 := Nat.zero_div c

theorem freq2reg_mono (c : Nat) {f g : Nat} (h : f ≤ g) : freq2reg f c ≤ freq2reg g c :=
  Nat.div_le_div_right (Nat.mul_le_mul_left _ h)

theorem freq2reg_anti (hc : 0 < c) (f : Nat) {d : Nat} (h : c ≤ d) : freq2reg f d ≤ freq2reg f c :=
  Nat.div_le_div_left h hc

theorem freq2reg_lt_two_pow_24_iff (hc : 0 < c) (f : Nat) : freq2reg f c < 2 ^ 24 ↔ 32 * f < c := by
  rw [freq2reg_lt_iff hc]
  omega

end Freq2Reg

/-! ### FITS24 (41 rule R152) -/

theorem fits24_iff {f c : Nat} : fits24 f c = true ↔ freq2reg f c < 2 ^ 24 := decide_eq_true_iff

/-- Where FITS24 holds, taking 24 bits loses nothing. -/
theorem freqCode_toNat {f c : U32} (h : fits24 f.toNat c.toNat = true) :
    (freqCode f c).toNat = freq2reg f.toNat c.toNat :=
  (BitVec.toNat_ofNat _ _).trans (Nat.mod_eq_of_lt (fits24_iff.mp h))

/-- A PROGRAM_SWEEP that does not fault has passed its two guards (42 rules R175, R176). -/
theorem programSweep_fits {f : U32} {n : U16} {s : State} {r : Bool × State} (h : programSweep f n s = .ok r) :
    ∃ k, selClk s.cfg f = some k ∧ fits24 f.toNat (rateOf s.cfg k) = true ∧
      fits24 s.regs.swInc.toNat (rateOf s.cfg k) = true := by
  obtain ⟨k, clock, -⟩ := programSweep_inv h
  refine ⟨k, clock, ?_⟩
  rw [← Bool.and_eq_true]
  by_contra unfit
  rw [programSweep_unfit clock (Bool.eq_false_of_not_eq_true unfit)] at h
  exact nomatch h

/-! ### REG2FREQ (41 rules R153, R154) -/

/-- REG2FREQ rounds to the nearest: it gives `f` for every code whose multiple of `c` is within `2^28` of `2^29 f`. -/
theorem reg2freq_eq {code c f : Nat} (low : 2 ^ 29 * f ≤ code * c + 2 ^ 28) (high : code * c < 2 ^ 29 * f + 2 ^ 28) :
    reg2freq code c = f :=
  Nat.div_eq_of_lt_le (by omega) (by omega)

/-- The code loses less than one unit, which is `c` in multiples of `2^29` and so no more than the rounding makes up. -/
theorem reg2freq_freq2reg {c : Nat} (hc : 0 < c) (small : c ≤ 2 ^ 28) (f : Nat) : reg2freq (freq2reg f c) c = f := by
  have floor := freq2reg_mul_le hc f
  have next := lt_freq2reg_add_one_mul hc f
  rw [Nat.add_one_mul] at next
  exact reg2freq_eq (by omega) (by omega)

/-! ### The chip's own steps (41 rule R155) -/

section Drift

variable {c : Nat}

/-- Floors add up to at most the floor of the sum. -/
theorem freq2reg_add_mul_le (hc : 0 < c) (start inc i : Nat) :
    freq2reg start c + i * freq2reg inc c ≤ freq2reg (start + i * inc) c := by
  rw [le_freq2reg_iff hc]
  calc (freq2reg start c + i * freq2reg inc c) * c
      = freq2reg start c * c + i * (freq2reg inc c * c) := by ring
    _ ≤ 2 ^ 29 * start + i * (2 ^ 29 * inc) :=
        Nat.add_le_add (freq2reg_mul_le hc start) (Nat.mul_le_mul_left i (freq2reg_mul_le hc inc))
    _ = 2 ^ 29 * (start + i * inc) := by ring

/-- Each of the `i + 1` floors loses less than one unit, so the sum of them loses less than `i + 1`. -/
theorem freq2reg_le_add_mul (hc : 0 < c) (start inc i : Nat) :
    freq2reg (start + i * inc) c ≤ freq2reg start c + i * freq2reg inc c + i := by
  rw [← Nat.lt_add_one_iff, freq2reg_lt_iff hc]
  calc 2 ^ 29 * (start + i * inc)
      = 2 ^ 29 * start + i * (2 ^ 29 * inc) := by ring
    _ < (freq2reg start c + 1) * c + i * ((freq2reg inc c + 1) * c) :=
        Nat.add_lt_add_of_lt_of_le (lt_freq2reg_add_one_mul hc start)
          (Nat.mul_le_mul_left i (lt_freq2reg_add_one_mul hc inc).le)
    _ = (freq2reg start c + i * freq2reg inc c + i + 1) * c := by ring

end Drift

/-! ### The statements -/

/-- Settles O20: every clause is a fact about the floor; the last evaluates the example of 41 rule R150. -/
theorem freq2RegIsTheFloor : Obligations.Freq2RegIsTheFloor :=
  ⟨fun f _ hc => ⟨freq2reg_mul_le hc f, lt_freq2reg_add_one_mul hc f⟩, freq2reg_zero, fun _ _ c => freq2reg_mono c,
    fun f _ _ hc => freq2reg_anti hc f, fun f _ hc => freq2reg_lt_two_pow_24_iff hc f, by decide⟩

/-- Settles O21, by the bound on the code and the guards of PROGRAM_SWEEP. -/
theorem fits24IffBelowRate : Obligations.Fits24IffBelowRate :=
  ⟨fun f _ hc => fits24_iff.trans (freq2reg_lt_two_pow_24_iff hc f), fun _ _ => fits24_iff, fun _ _ => freqCode_toNat,
    fun _ _ _ _ => programSweep_fits⟩

/-- Settles O22, for every frequency: FITS24 is not needed, as the arithmetic is not cut to 24 bits. -/
theorem frequencyRoundTrip : Obligations.FrequencyRoundTrip :=
  fun f _ hc small _ => reg2freq_freq2reg hc small.le f

/-- Settles O23, by the two bounds on a sum of floors. -/
theorem incrementDriftIsBounded : Obligations.IncrementDriftIsBounded :=
  fun start inc i _ hc => ⟨freq2reg_add_mul_le hc start inc i, freq2reg_le_add_mul hc start inc i⟩

end Sys2Proof.Machine
end

section
/-! PROOF. The clock selector and the control bytes (42 rules R161 to R168, R175, R176): the control writes presented on the
sequencer's port, the bands of SELCLK, what RANGECHK asks, and the guards of PROGRAM_SWEEP. -/

namespace Sys2Proof.Machine

open Sys2Proof.Claims

/-! ### The control writes, presented on the model's own port (42 rules R165, R167) -/

/-- A presented control-byte command is WRITE8 of its byte to the control register's high byte. -/
theorem ccWrite_presented (fc : BitVec 4) (s : State) : ∃ t,
    replyVerdict (ccWrite fc (issueAs .sequencer s)) = .next t ∧ t.reply = .verdict (verdict s 0) ∧
    ByteWritten .sequencer s.cfg.aCtrlHi (ctrlHiByte s.cfg fc s.regs.rgVr s.regs.rgPga) s t ∧ OnlyTheBus s t :=
  write8StoresOneByte s.cfg.aCtrlHi (ctrlHiByte s.cfg fc s.regs.rgVr s.regs.rgPga) s

/-- Settles O14: the seven commands differ in their function code only. -/
theorem controlCommandsWriteTheHighByte : Obligations.ControlCommandsWriteTheHighByte := fun s =>
  ⟨ccWrite_presented s.cfg.fcInit s, ccWrite_presented s.cfg.fcStart s, ccWrite_presented s.cfg.fcIncr s,
    ccWrite_presented s.cfg.fcRepeat s, ccWrite_presented s.cfg.fcMtemp s, ccWrite_presented s.cfg.fcPdown s,
    ccWrite_presented s.cfg.fcStandby s⟩

theorem clkSourceBit_eq (c : Config) (k : ClkIdx) :
    clkSourceBit c k = if k ≠ c.intIdx then c.clkExtValue else 1 - c.clkExtValue := by
  simp only [clkSourceBit, Config.isExternal, bne_iff_ne]

/-- Settles O15: CL_WRITE is WRITE8 of its byte to the control register's low byte. -/
theorem clWriteCarriesTheClockBit : Obligations.ClWriteCarriesTheClockBit := by
  intro s r
  dsimp only
  rw [← clkSourceBit_eq]
  exact write8StoresOneByte s.cfg.aCtrlLo (ctrlLoByte s.cfg r (clkSourceBit s.cfg s.regs.clkSel)) s

/-! ### The bands of SELCLK (42 rules R161, R164) -/

/-- SELCLK of the frequency is band `k` or a higher one. -/
def ReachesBand (c : Config) (f : U32) (k : ClkIdx) : Prop := ∃ l, selClk c f = some l ∧ k ≤ l

section Bands

variable {c : Config} (w : c.WfClocks) {f g : U32} {k : ClkIdx}

include w

/-- The threshold of a band is the first frequency that reaches it. -/
theorem reachesBand_iff : ReachesBand c f k ↔ (c.clkThr.get k).toNat ≤ f.toNat := by
  obtain ⟨-, -, -, -, t01, t12, t23, -⟩ := w
  simp only [ReachesBand, selClk, BitVec.lt_def]
  match k with
  | 0 | 1 | 2 | 3 => split_ifs <;> simp [PerClock.get] <;> omega

theorem selClk_mono (h : f ≤ g) (e : selClk c f = some k) : ∃ l, selClk c g = some l ∧ k ≤ l :=
  (reachesBand_iff w).2 (((reachesBand_iff w).1 ⟨k, e, le_rfl⟩).trans h)

theorem selClk_eq_none_iff : selClk c f = none ↔ f.toNat < c.clkThr.k0.toNat := by
  have option : ∀ o : Option ClkIdx, o = none ↔ ¬ ∃ l, o = some l ∧ 0 ≤ l := by decide
  rw [option, ← Nat.not_le]
  exact not_congr (reachesBand_iff w)

/-- A frequency is in the top band when it reaches it. -/
theorem selClk_eq_top_iff : selClk c f = some 3 ↔ c.clkThr.k3.toNat ≤ f.toNat := by
  have option : ∀ o : Option ClkIdx, o = some 3 ↔ ∃ l, o = some l ∧ 3 ≤ l := by decide
  rw [option]
  exact reachesBand_iff w

/-- A frequency is in a lower band when it reaches this band and not the next. -/
theorem selClk_eq_some_iff (h : k ≠ 3) : selClk c f = some k ↔
    (c.clkThr.get k).toNat ≤ f.toNat ∧ f.toNat < (c.clkThr.get (k + 1)).toNat := by
  have option : ∀ (o : Option ClkIdx) (k : ClkIdx), k ≠ 3 →
      (o = some k ↔ (∃ l, o = some l ∧ k ≤ l) ∧ ¬ ∃ l, o = some l ∧ k + 1 ≤ l) := by decide
  rw [option _ k h, ← Nat.not_le]
  exact and_congr (reachesBand_iff w) (not_congr (reachesBand_iff w))

/-- One below a threshold the band is not reached, at the threshold it is. -/
theorem selClk_threshold (h : 0 < (c.clkThr.get k).toNat) :
    selClk c (c.clkThr.get k - 1) ≠ selClk c (c.clkThr.get k) := by
  intro e
  obtain ⟨l, band, le⟩ : ReachesBand c (c.clkThr.get k) k := (reachesBand_iff w).2 le_rfl
  have below : ReachesBand c (c.clkThr.get k - 1) k := ⟨l, e.trans band, le⟩
  rw [reachesBand_iff w] at below
  bv_omega

end Bands

/-- Settles O24: every clause is a fact about the bands a frequency reaches. -/
theorem clockSelectionIsAStepFunction : Obligations.ClockSelectionIsAStepFunction := fun _ w =>
  ⟨fun _ => ⟨selClk_eq_none_iff w, selClk_eq_some_iff w (by decide), selClk_eq_some_iff w (by decide),
    selClk_eq_some_iff w (by decide), selClk_eq_top_iff w⟩,
    fun _ _ h _ => selClk_mono w h, fun _ => selClk_threshold w⟩

/-! ### RANGECHK (42 rule R168) -/

section Rates

variable {c : Config} (w : c.WfClocks) {f : U32} {k l : ClkIdx}

include w

theorem rateOf_mono (h : k ≤ l) : rateOf c k ≤ rateOf c l := by
  obtain ⟨-, r01, r12, r23, -⟩ := w
  have step : ∀ i : Fin 3, rateOf c i.castSucc ≤ rateOf c i.succ := fun i =>
    match i with
    | 0 => r01.le
    | 1 => r12.le
    | 2 => r23.le
  exact Fin.monotone_iff_le_succ.2 step h

theorem rateOf_pos (k : ClkIdx) : 0 < rateOf c k :=
  have ⟨r0, _⟩ := w
  lt_of_lt_of_le r0 (rateOf_mono w (Fin.zero_le k))

theorem fits24_rateOf_iff (f : Nat) : fits24 f (rateOf c k) = true ↔ 32 * f < rateOf c k :=
  fits24_iff.trans (freq2reg_lt_two_pow_24_iff (rateOf_pos w k) f)

/-- The frequencies of the lower bands lie below the next threshold, and so in reach of their clock (00 rule R6 (h)). -/
theorem selClk_below_rate (e : selClk c f = some k) (h : k ≠ 3) : 32 * f.toNat < rateOf c k := by
  obtain ⟨-, below⟩ := (selClk_eq_some_iff w h).1 e
  obtain ⟨-, -, -, -, -, -, -, b0, b1, b2, -⟩ := w
  have bound := Nat.mul_le_mul_left 32 (Nat.le_sub_one_of_lt below)
  match k, h, bound with
  | 0, _, bound => exact bound.trans_lt b0
  | 1, _, bound => exact bound.trans_lt b1
  | 2, _, bound => exact bound.trans_lt b2
  | 3, h, _ => exact absurd rfl h

theorem rangeChk_iff : rangeChk c f = true ↔ ∃ k, selClk c f = some k ∧ 32 * f.toNat < rateOf c k := by
  unfold rangeChk
  cases selClk c f with
  | none => simp
  | some k => simp [fits24_rateOf_iff w]

end Rates

/-- Settles O25, by the bound on the code and the thresholds of the lower bands. -/
theorem rangeCheckMeaning : Obligations.RangeCheckMeaning := fun _ w _ =>
  ⟨rangeChk_iff w, fun k e h => (rangeChk_iff w).2 ⟨k, e, selClk_below_rate w e h⟩⟩

/-! ### The guards of PROGRAM_SWEEP (42 rules R175, R176) -/

/-- Settles O28: the second guard is FITS24 of both frequencies, and that is the bound of 41 rule R152. -/
theorem programSweepGuards : Obligations.ProgramSweepGuards := by
  intro f n s
  refine ⟨programSweep_none, fun k band unfit pos => programSweep_unfit band ?_⟩
  rw [← Bool.not_eq_true, Bool.and_eq_true, fits24_iff, fits24_iff, freq2reg_lt_two_pow_24_iff pos,
    freq2reg_lt_two_pow_24_iff pos]
  exact unfit

end Sys2Proof.Machine
end

section
/-! PROOF. SETCLK and PROGRAM_SWEEP (42 rules R163, R175, R177): a sequence that stops at the first FAIL carries out its
plan. -/

namespace Sys2Proof.Machine

open Sys2Proof.Claims

/-! ### SETCLK before its write (42 rule R163) -/

/-- SETCLK up to its write: the generator requests, and the shadows. -/
def clockPrepared (k : ClkIdx) (s : State) : State := selectClock k (startExternal k (stopIfRunning s))

theorem setClk_eq (k : ClkIdx) (s : State) : setClk k s = clWrite 0 (clockPrepared k s) := rfl

theorem clockPrepared_eq (k : ClkIdx) (s : State) : clockPrepared k s =
    { s with
      regs := clockSelected s.cfg k s.regs
      gen := generatorAfter s k
      history := s.history ++ (clockRequests s k).map (Event.mk s.issuer) } := by
  obtain ⟨cfg, regs, _⟩ := s
  cases run : regs.cgRun <;> cases ext : cfg.isExternal k <;>
    simp [clockPrepared, selectClock, startExternal, stopIfRunning, clockSelected, generatorAfter, clockRequests, run,
      ext, setRegs, cgStop, cgSetPsc, cgStart, setGen, emit]

theorem setClk_spec (k : ClkIdx) (s : State) : (setClk k s).1 = verdict s 0 ∧
    BusOnly (fun x => x = s.cfg.aCtrlLo) 1 [clockBitOf s k (verdict s 0)] (clockPrepared k s) (setClk k s).2 := by
  have spec := clWrite_spec 0 (clockPrepared k s)
  rw [clockPrepared_eq] at spec
  rw [setClk_eq, clockPrepared_eq]
  exact spec

theorem callersKept_of_eq {s t : State} (hb : t.buf = s.buf) (ht : t.temp = s.temp) : CallersKept s t :=
  ⟨fun ref i => congrArg (Memory.read · (bufAddress ref i)) hb,
    fun ref => congrArg (Memory.read · (tempAddress ref)) ht⟩

/-- Settles O26: the requests change the generator and the shadows, the write uses the bus alone. -/
theorem setClkSequence : Obligations.SetClkSequence := by
  intro k s
  obtain ⟨answer, bus⟩ := setClk_spec k s
  rw [clockPrepared_eq] at bus
  refine ⟨_, Prod.ext answer rfl, ?_, ⟨bus.answers, bus.draws⟩, bus.regs, bus.gen, ⟨bus.cfg, bus.requests⟩,
    callersKept_of_eq bus.buf bus.temp, bus.bytes⟩
  rw [Recorded, bus.history, List.map_append, List.append_assoc]

/-! ### Plans -/

/-- How many frames a plan asks for. -/
def planFrames (plan : List EventKind) : Nat :=
  match plan with
  | [] => 0
  | .frame _ _ _ _ _ _ :: rest => planFrames rest + 1
  | _ :: rest => planFrames rest

/-- Generator requests always happen. -/
theorem runPlan_requests (ok : Nat → Bool) (j : Nat) {plan : List EventKind} (h : ∀ e ∈ plan, isRequest e = true) :
    runPlan ok j plan = (plan, true) ∧ planFrames plan = 0 := by
  induction plan with
  | nil => exact ⟨rfl, rfl⟩
  | cons e rest ih =>
    obtain ⟨run, frames⟩ := ih fun e m => h e (List.mem_cons_of_mem _ m)
    have request := h e List.mem_cons_self
    cases e with
    | cgStop | cgSetPsc | cgStart => exact ⟨by simp only [runPlan, run], frames⟩
    | _ => exact nomatch request

theorem runPlan_append (ok : Nat → Bool) (j : Nat) (p q : List EventKind) : runPlan ok j (p ++ q) =
    if (runPlan ok j p).2 then
      ((runPlan ok j p).1 ++ (runPlan ok (j + planFrames p) q).1, (runPlan ok (j + planFrames p) q).2)
    else runPlan ok j p := by
  induction p generalizing j with
  | nil => rfl
  | cons e rest ih =>
    cases e with
    | frame =>
      have next : j + 1 + planFrames rest = j + (planFrames rest + 1) := by omega
      cases here : ok j
      · simp [runPlan, here]
      · cases later : (runPlan ok (j + 1) rest).2 <;> simp [runPlan, planFrames, ih, here, later, next]
    | _ => cases later : (runPlan ok j rest).2 <;> simp [runPlan, planFrames, ih, later]

theorem planFrames_append (p q : List EventKind) : planFrames (p ++ q) = planFrames p + planFrames q := by
  induction p with
  | nil => exact (Nat.zero_add _).symm
  | cons e rest ih => cases e <;> simp only [List.cons_append, planFrames, ih, Nat.add_right_comm]

/-- A plan asks for the verdicts from its first one on only. -/
theorem runPlan_congr {ok ok' : Nat → Bool} {j j' : Nat} (h : ∀ i, ok (j + i) = ok' (j' + i)) (plan : List EventKind) :
    runPlan ok j plan = runPlan ok' j' plan := by
  induction plan generalizing j j' with
  | nil => rfl
  | cons e rest ih =>
    cases e with
    | frame =>
      have later : ∀ i, ok (j + 1 + i) = ok' (j' + 1 + i) := fun i => by
        rw [Nat.add_assoc, Nat.add_assoc]
        exact h (1 + i)
      simp only [runPlan, ih later, show ok j = ok' j' from h 0]
    | _ => simp only [runPlan, ih h]

/-! ### Carrying out a plan -/

/-- An operation begun in `s` carried out the plan as far as the verdicts let it, says whether that was the whole plan, and
sent bytes to addresses in `P` only. -/
structure CarriesOut (P : Byte → Prop) (plan : List EventKind) (s : State) (r : Bool × State) : Prop where
  whole : r.1 = (runPlan (verdict s) 0 plan).2
  recorded : Recorded s.issuer (runPlan (verdict s) 0 plan).1 s r.2
  coming : r.1 = true → ∀ j, verdict r.2 j = verdict s (planFrames plan + j)
  issuer : r.2.issuer = s.issuer
  environment : EnvironmentKept s r.2
  callers : CallersKept s r.2
  bytes : ChipBytesKeptOutside P s r.2
  selectors : r.2.regs.rgVr = s.regs.rgVr ∧ r.2.regs.rgPga = s.regs.rgPga

namespace CarriesOut

variable {P : Byte → Prop} {p q : List EventKind} {s : State} {r : Bool × State}

theorem cfg (h : CarriesOut P p s r) : r.2.cfg = s.cfg := h.environment.1

/-- Going on with a second plan after the first was carried out whole. -/
theorem andThen {f : State → Bool × State} (h : CarriesOut P p s r) (k : r.1 = true → CarriesOut P q r.2 (f r.2)) :
    CarriesOut P (p ++ q) s (andThen f r) := by
  have run := runPlan_append (verdict s) 0 p q
  rw [← h.whole] at run
  cases ok : r.1
  · rw [ok, if_neg Bool.false_ne_true] at run
    rw [andThen_false f ok]
    exact { h with
      whole := run ▸ h.whole
      recorded := run ▸ h.recorded
      coming := fun whole => absurd whole (ne_true_of_eq_false ok) }
  · have g := k ok
    have shift : runPlan (verdict r.2) 0 q = runPlan (verdict s) (0 + planFrames p) q :=
      runPlan_congr (fun i => by rw [Nat.zero_add, Nat.zero_add, h.coming ok]) q
    rw [ok, if_pos rfl, ← shift] at run
    rw [andThen_true f ok]
    exact
      { whole := run ▸ g.whole
        recorded := by
          have first := h.recorded
          have second := g.recorded
          rw [Recorded] at first second
          rw [run, Recorded, second, first, h.issuer, List.map_append, List.append_assoc]
        coming := fun whole j => by
          rw [g.coming whole, h.coming ok, planFrames_append, Nat.add_assoc]
        issuer := g.issuer.trans h.issuer
        environment := ⟨g.environment.1.trans h.environment.1, g.environment.2.trans h.environment.2⟩
        callers := ⟨fun ref i => (g.callers.1 ref i).trans (h.callers.1 ref i),
          fun ref => (g.callers.2 ref).trans (h.callers.2 ref)⟩
        bytes := fun x hx => (g.bytes x hx).trans (h.bytes x hx)
        selectors := ⟨g.selectors.1.trans h.selectors.1, g.selectors.2.trans h.selectors.2⟩ }

end CarriesOut

/-- One frame, whose verdict is the answer. -/
theorem BusOnly.carriesOut {P Q : Byte → Prop} {k : FrameKind} {d : BitVec 7} {a : Byte} {sent received : List Byte}
    {x : Bool} {s : State} {r : Bool × State} (answer : r.1 = verdict s 0)
    (bus : BusOnly P 1 [.frame k d a sent received (verdict s 0)] s r.2) (w : ∀ x, P x → Q x) :
    CarriesOut Q [.frame k d a sent received x] s r := by
  have run : runPlan (verdict s) 0 [.frame k d a sent received x] =
      ([.frame k d a sent received (verdict s 0)], verdict s 0) := by
    cases h : verdict s 0 <;> simp [runPlan, h]
  exact
    { whole := by rw [run, answer]
      recorded := by rw [run]; exact bus.history
      coming := fun _ j => congrArg Answer.ok (bus.upcoming j)
      issuer := bus.issuer
      environment := ⟨bus.cfg, bus.requests⟩
      callers := callersKept_of_eq bus.buf bus.temp
      bytes := chipBytesKeptOutside_mono bus.bytes w
      selectors := by rw [bus.regs]; exact ⟨rfl, rfl⟩ }

/-! ### The parts of PROGRAM_SWEEP (42 rule R175) -/

section Parts

variable {P : Byte → Prop} {s : State}

theorem ccWrite_carriesOut (fc : BitVec 4) (w : P s.cfg.aCtrlHi) :
    CarriesOut P [controlOf s fc true] s (ccWrite fc s) :=
  have ⟨answer, bus⟩ := ccWrite_spec fc s
  bus.carriesOut answer fun _ e => e ▸ w

/-- A two-phase write sends its second frame only after the pointer was set to its register. -/
theorem blockWrite_carriesOut (a : Byte) (bs : List Byte) (w : ∀ x, InBlock a bs.length x → P x) :
    CarriesOut P [pointerSetOf s a true, blockWriteOf s a bs true] s
      (andThen (frameBlockWrite a bs) (setAddr a s)) := by
  have pointer : CarriesOut P [pointerSetOf s a true] s (setAddr a s) :=
    (framePointerSet_busOnly a s).carriesOut (framePointerSet_fst a s) fun _ => False.elim
  refine pointer.andThen (q := [blockWriteOf s a bs true]) fun ok => ?_
  have bus := frameBlockWrite_busOnly a bs (setAddr a s).2
  rw [setAddr_ptr (s := s) (by rwa [← framePointerSet_fst a s]), pointer.cfg] at bus
  exact bus.carriesOut (frameBlockWrite_fst a bs _) w

theorem clockRequests_requests (s : State) (k : ClkIdx) : ∀ e ∈ clockRequests s k, isRequest e = true := by
  unfold clockRequests
  split <;> split <;> simp [isRequest]

/-- SETCLK: the requests always happen, the write ends the plan. -/
theorem setClk_carriesOut (k : ClkIdx) (w : P s.cfg.aCtrlLo) :
    CarriesOut P (clockRequests s k ++ [clockBitOf s k true]) s (setClk k s) := by
  obtain ⟨run, frames⟩ := runPlan_requests (verdict s) 0 (clockRequests_requests s k)
  have prepared : CarriesOut P (clockRequests s k) s (true, clockPrepared k s) := by
    rw [clockPrepared_eq]
    exact
      { whole := by rw [run]
        recorded := by rw [run]; rfl
        coming := fun _ j => by rw [frames, Nat.zero_add]; rfl
        issuer := rfl
        environment := ⟨rfl, rfl⟩
        callers := callersKept_of_eq rfl rfl
        bytes := fun _ _ => rfl
        selectors := ⟨rfl, rfl⟩ }
  obtain ⟨answer, bus⟩ := setClk_spec k s
  have coming : verdict (clockPrepared k s) 0 = verdict s 0 := by rw [clockPrepared_eq]; rfl
  rw [← coming] at answer bus
  have write := prepared.andThen (q := [clockBitOf s k true]) (f := clWrite 0) fun _ =>
    bus.carriesOut answer fun x e => (show x = s.cfg.aCtrlLo from e) ▸ w
  exact write

end Parts

namespace CarriesOut

variable {plan : List EventKind} {s : State} {r : Bool × State}

/-- A further control-byte command, with the selectors the plan began with. -/
theorem control {P : Byte → Prop} (h : CarriesOut P plan s r) (fc : BitVec 4) (w : P s.cfg.aCtrlHi) :
    CarriesOut P (plan ++ [controlOf s fc true]) s (Machine.andThen (ccWrite fc) r) := by
  obtain ⟨vr, pga⟩ := h.selectors
  have same : controlOf r.2 fc true = controlOf s fc true := by
    simp only [controlOf, byteWriteOf, frameOf, h.cfg, vr, pga]
  rw [← same]
  exact h.andThen fun _ => ccWrite_carriesOut fc (h.cfg ▸ w)

/-- A further two-phase write of the bytes `bs`. -/
theorem block {P : Byte → Prop} (h : CarriesOut P plan s r) (a : Byte) (bs : List Byte)
    (w : ∀ x, InBlock a bs.length x → P x) : CarriesOut P (plan ++ [pointerSetOf s a true, blockWriteOf s a bs true]) s
      (Machine.andThen (fun t => Machine.andThen (frameBlockWrite a bs) (setAddr a t)) r) := by
  have same : [pointerSetOf r.2 a true, blockWriteOf r.2 a bs true] =
      [pointerSetOf s a true, blockWriteOf s a bs true] := by
    simp only [pointerSetOf, blockWriteOf, frameOf, h.cfg]
  rw [← same]
  exact h.andThen fun _ => blockWrite_carriesOut a bs w

/-- A further WRITE24 to a register PROGRAM_SWEEP programs. -/
theorem write24 (h : CarriesOut (SweepRegisterByte s.cfg) plan s r) (a : Byte) (v : U24)
    (w : a ∈ [s.cfg.aFreqStart, s.cfg.aFreqInc]) :
    CarriesOut (SweepRegisterByte s.cfg) (plan ++ write24Plan s a v) s (Machine.andThen (Machine.write24 a v) r) := by
  refine h.block a (bytes24 v) fun x hx => ?_
  simp only [List.mem_cons, List.not_mem_nil, or_false] at w
  obtain rfl | rfl := w <;> obtain rfl | rfl | rfl := inBlock_three hx <;> simp [SweepRegisterByte]

/-- A further WRITE16 to a register PROGRAM_SWEEP programs. -/
theorem write16 (h : CarriesOut (SweepRegisterByte s.cfg) plan s r) (a : Byte) (v : U16)
    (w : a ∈ [s.cfg.aNumInc, s.cfg.aSettle]) :
    CarriesOut (SweepRegisterByte s.cfg) (plan ++ write16Plan s a v) s (Machine.andThen (Machine.write16 a v) r) := by
  refine h.block a (bytes16 v) fun x hx => ?_
  simp only [List.mem_cons, List.not_mem_nil, or_false] at w
  obtain rfl | rfl := w <;> obtain rfl | rfl := inBlock_two hx <;> simp [SweepRegisterByte]

end CarriesOut

theorem programWrites_carriesOut {plan : List EventKind} {s : State} {r : Bool × State}
    (h : CarriesOut (SweepRegisterByte s.cfg) plan s r) (k : ClkIdx) (f : U32) (n : U16) :
    CarriesOut (SweepRegisterByte s.cfg)
      (plan ++ write24Plan s s.cfg.aFreqStart (freqCode f (s.cfg.clkRate.get k)) ++
        write24Plan s s.cfg.aFreqInc (freqCode s.regs.swInc (s.cfg.clkRate.get k)) ++
        write16Plan s s.cfg.aNumInc (ninc16 n) ++
        write16Plan s s.cfg.aSettle (settle16 s.cfg s.regs.swMult s.regs.swSettle) ++
        [controlOf s s.cfg.fcInit true]) s (programWrites s k f n r) :=
  ((((h.write24 s.cfg.aFreqStart _ (by simp)).write24 s.cfg.aFreqInc _ (by simp)).write16 s.cfg.aNumInc _
    (by simp)).write16 s.cfg.aSettle _ (by simp)).control _
    (by simp [SweepRegisterByte])

/-- Arming the wait is no bus operation and always succeeds. -/
theorem CarriesOut.armed {P : Byte → Prop} {plan : List EventKind} {s : State} {r : Bool × State}
    (h : CarriesOut P plan s r) : CarriesOut P plan s (Machine.andThen (fun t => (true, armWait t)) r) := by
  have arm : ∀ t, CarriesOut P [] t (true, armWait t) := fun t =>
    { whole := rfl, recorded := (List.append_nil _).symm, coming := fun _ j => by rw [planFrames, Nat.zero_add]; rfl
      issuer := rfl, environment := ⟨rfl, rfl⟩, callers := callersKept_of_eq rfl rfl, bytes := fun _ _ => rfl
      selectors := ⟨rfl, rfl⟩ }
  have armed := h.andThen (f := fun t => (true, armWait t)) fun _ => arm r.2
  rwa [List.append_nil] at armed

theorem programSteps_carriesOut (k : ClkIdx) (f : U32) (n : U16) (s : State) :
    CarriesOut (SweepRegisterByte s.cfg) (sweepPlan s k f n) s (programSteps k f n s) := by
  have standby : CarriesOut (SweepRegisterByte s.cfg) [controlOf s s.cfg.fcStandby true] s
      (ccWrite s.cfg.fcStandby s) :=
    ccWrite_carriesOut _ (by simp [SweepRegisterByte])
  have same : clockRequests (ccWrite s.cfg.fcStandby s).2 k ++ [clockBitOf (ccWrite s.cfg.fcStandby s).2 k true] =
      clockRequests s k ++ [clockBitOf s k true] := by
    have bus := ccWrite_usesBus s.cfg.fcStandby s
    simp only [clockRequests, clockBitOf, byteWriteOf, frameOf, bus.cfg, bus.regs]
  have clocked := standby.andThen fun _ =>
    same ▸ setClk_carriesOut k (by rw [standby.cfg]; simp [SweepRegisterByte])
  rw [← List.append_assoc] at clocked
  exact (programWrites_carriesOut clocked k f n).armed

/-! ### What PROGRAM_SWEEP leaves in the block and the generator -/

/-- A failed standby is all PROGRAM_SWEEP does. -/
theorem programSteps_standby_failed {s : State} (h : verdict s 0 = false) (k : ClkIdx) (f : U32) (n : U16) :
    programSteps k f n s = (false, (ccWrite s.cfg.fcStandby s).2) := by
  have failed : (ccWrite s.cfg.fcStandby s).1 = false := (ccWrite_spec s.cfg.fcStandby s).1.trans h
  rw [programSteps_eq, andThen_false _ failed, programWrites_false s k f n failed, andThen_false _ failed]
  exact Prod.ext failed rfl

/-- After an accepted standby the clock is selected, and the wait is armed when nothing failed. -/
theorem programSteps_standby_ok {s : State} (h : verdict s 0 = true) (k : ClkIdx) (f : U32) (n : U16) :
    (programSteps k f n s).2.gen = generatorAfter s k ∧
    (programSteps k f n s).2.regs = if (programSteps k f n s).1 then armed (clockSelected s.cfg k s.regs)
      else clockSelected s.cfg k s.regs := by
  have ok : (ccWrite s.cfg.fcStandby s).1 = true := (ccWrite_spec s.cfg.fcStandby s).1.trans h
  have standby := (ccWrite_spec s.cfg.fcStandby s).2
  have clock := (setClk_spec k (ccWrite s.cfg.fcStandby s).2).2
  rw [clockPrepared_eq] at clock
  obtain ⟨_, _, _, bus⟩ := programWrites_usesBus s k f n (setClk k (ccWrite s.cfg.fcStandby s).2)
  have gen := bus.gen.trans clock.gen
  have regs := bus.regs.trans clock.regs
  dsimp only at gen regs
  rw [generatorAfter, standby.cfg, standby.regs, standby.gen] at gen
  rw [standby.cfg, standby.regs] at regs
  rw [programSteps_eq, andThen_true _ ok]
  cases whole : (programWrites s k f n (setClk k (ccWrite s.cfg.fcStandby s).2)).1
  · rw [andThen_false _ whole, whole]
    exact ⟨gen, regs⟩
  · rw [andThen_true _ whole, armWait_eq, regs]
    exact ⟨gen, rfl⟩

/-- Settles O27: the plan carried out gives what happened, the verdict on standby what it left. -/
theorem programSweepFollowsItsPlan : Obligations.ProgramSweepFollowsItsPlan := by
  intro k f n s band startFits incFits
  have done := programSteps_carriesOut k f n s
  dsimp only
  rw [← done.whole]
  refine ⟨(programSteps k f n s).2, programSweep_ok band (Bool.and_eq_true_iff.2 ⟨startFits, incFits⟩),
    done.recorded, ?_⟩
  cases h : verdict s 0
  · have bus := ccWrite_spec s.cfg.fcStandby s
    have failed := programSteps_standby_failed h k f n
    exact ⟨fun whole => absurd whole (by simp [failed]), fun _ => by rw [failed]; exact bus.2.regs,
      by rw [failed]; exact bus.2.gen, done.environment, done.callers, done.bytes⟩
  · obtain ⟨gen, regs⟩ := programSteps_standby_ok h k f n
    exact ⟨fun whole => by rw [regs, if_pos whole]; rfl,
      fun cut => by rw [regs, if_neg (ne_true_of_eq_false cut)]; rfl, gen, done.environment, done.callers, done.bytes⟩

end Sys2Proof.Machine
end

section
/-! PROOF. What every operation consists of, and the generator's requests (20 rule R78, 42 rules R162, R163, R180): each
operation is a sequence of single actions, of which only two ask anything of the generator. -/

namespace Sys2Proof.Machine

open Sys2Proof.Claims

/-! ### The single actions -/

/-- The single things an operation does: one frame, one event, one update. Two of them ask something of the generator, that
of SETCLK before its write and that of INIT. -/
inductive Action : State → State → Prop
  | frame {P : Byte → Prop} {k : FrameKind} {a : Byte} {sent received : List Byte} {ok : Bool} {s t : State}
      (h : BusOnly P 1 [.frame k s.cfg.busDevAddr a sent received ok] s t) : Action s t
  | registers {s : State} {r : Regs} (h : r.cgRun = s.regs.cgRun) : Action s (setRegs r s)
  | reply (r : Reply) (s : State) : Action s (setReply r s)
  | ended (c : Cause) (s : State) : Action s (endStart c s)
  | sample (ref : Handle) (i : U16) (rec : Sample) (s : State) : Action s (writeSample ref i rec s)
  | temperature (ref : Handle) (t : U16) (s : State) : Action s (writeTemp ref t s)
  | selectClock (k : ClkIdx) (s : State) : Action s (clockPrepared k s)
  | initialise (s : State) : Action s (cgStop (setRegs (initRegs s.cfg s.regs) s))

/-- From `s` to `t` by single actions, one after another. -/
abbrev Actions : State → State → Prop := Relation.ReflTransGen Action

theorem Action.actions {s t : State} (h : Action s t) : Actions s t := .single h

/-- A further operation of a sequence that stops at the first FAIL. -/
theorem Actions.andThen {s : State} {r : Bool × State} {f : State → Bool × State} (h : Actions s r.2)
    (k : ∀ t, Actions t (f t).2) : Actions s (andThen f r).2 := by
  cases e : r.1
  · rwa [andThen_false f e]
  · rw [andThen_true f e]; exact h.trans (k r.2)

/-- A read after a pointer set. -/
theorem Actions.andThenRead {α : Type} {s : State} {r : Bool × State} {f : State → Option α × State} (h : Actions s r.2)
    (k : ∀ t, Actions t (f t).2) : Actions s (andThenRead f r).2 := by
  cases e : r.1
  · rwa [andThenRead_false f e]
  · rw [andThenRead_true f e]; exact h.trans (k r.2)

/-- Delivering a reply ends an operation. -/
theorem Actions.replied {s t u : State} {rep : Reply} (h : Actions s u)
    (e : (.next (setReply rep u) : Host.Outcome State Fault Refusal) = .next t) : Actions s t :=
  Host.Outcome.next.inj e ▸ h.tail (.reply rep u)

/-! ### The shared operations -/

theorem setAddr_actions (a : Byte) (s : State) : Actions s (setAddr a s).2 :=
  (Action.frame (framePointerSet_busOnly a s)).actions

theorem write8_actions (a v : Byte) (s : State) : Actions s (write8 a v s).2 :=
  (Action.frame (frameByteWrite_busOnly a v s)).actions

theorem write16_actions (a : Byte) (v : U16) (s : State) : Actions s (write16 a v s).2 :=
  (setAddr_actions a s).andThen fun t => (Action.frame (frameBlockWrite_busOnly a _ t)).actions

theorem write24_actions (a : Byte) (v : U24) (s : State) : Actions s (write24 a v s).2 :=
  (setAddr_actions a s).andThen fun t => (Action.frame (frameBlockWrite_busOnly a _ t)).actions

theorem read8_actions (a : Byte) (s : State) : Actions s (read8 a s).2 :=
  (setAddr_actions a s).andThenRead fun t => (Action.frame (frameByteReceive_busOnly a t)).actions

theorem read16_actions (a : Byte) (s : State) : Actions s (read16 a s).2 :=
  (setAddr_actions a s).andThenRead fun t => (Action.frame (frameBlockRead_busOnly a t)).actions

theorem ccWrite_actions (fc : BitVec 4) (s : State) : Actions s (ccWrite fc s).2 := write8_actions _ _ s

theorem clWrite_actions (r : BitVec 1) (s : State) : Actions s (clWrite r s).2 := write8_actions _ _ s

theorem chipReset_actions (s : State) : Actions s (chipReset s) :=
  ((ccWrite_actions _ s).trans (clWrite_actions 1 _)).trans (clWrite_actions 0 _)

theorem setClk_actions (k : ClkIdx) (s : State) : Actions s (setClk k s).2 :=
  (Action.selectClock k s).actions.trans (clWrite_actions 0 _)

theorem programSteps_actions (k : ClkIdx) (f : U32) (n : U16) (s : State) : Actions s (programSteps k f n s).2 :=
  (((((((ccWrite_actions _ s).andThen (setClk_actions k)).andThen (write24_actions _ _)).andThen
    (write24_actions _ _)).andThen (write16_actions _ _)).andThen (write16_actions _ _)).andThen
    (ccWrite_actions _)).andThen fun _ => (Action.registers (by rfl)).actions

theorem programSweep_actions {f : U32} {n : U16} {s : State} {r : Bool × State} (h : programSweep f n s = .ok r) :
    Actions s r.2 := by
  obtain ⟨k, -, rfl⟩ := programSweep_inv h
  exact programSteps_actions k f n s

theorem pollSample_actions (s : State) : Actions s (pollSample s).2 := by
  have status := read8_actions s.cfg.aStatus s
  have real := status.trans (read16_actions (read8 s.cfg.aStatus s).2.cfg.aReal _)
  obtain h | h | h := pollSample_snd s <;> rw [h]
  · exact status
  · exact real
  · exact real.trans (read16_actions _ _)

theorem pollTemp_actions (s : State) : Actions s (pollTemp s).2 := by
  have status := read8_actions s.cfg.aStatus s
  obtain h | h := pollTemp_snd s <;> rw [h]
  · exact status
  · exact status.trans (read16_actions _ _)

/-! ### TICK (43 rules R201 to R211) -/

theorem tickWait_actions (s : State) : Actions s (tickWait s) := by
  cases h : waitElapsed s.cfg s.regs
  · rw [tickWait_idle h]
  · rw [tickWait_start h]
    exact (ccWrite_actions _ s).tail (.registers (by rfl))

theorem nextPoint_actions {st : Byte} {s t : State} (h : nextPoint st s = .ok t) : Actions s t := by
  cases d : sweepDone st
  · by_cases k : selClk s.cfg s.regs.freqCur = some s.regs.clkSel
    · rw [nextPoint_increment d k] at h
      obtain rfl := Except.ok.inj h
      exact ccWrite_actions _ s
    · rw [nextPoint_change d k] at h
      cases e : programSweep s.regs.freqCur (incrementsLeft s.regs) s with
      | error f => rw [e] at h; exact nomatch h
      | ok r =>
        rw [e] at h
        obtain rfl := Except.ok.inj h
        exact programSweep_actions e
  · rw [nextPoint_done d] at h
    obtain rfl := Except.ok.inj h
    exact (Action.registers (by rfl)).actions

theorem finishPoint_actions {st : Byte} {s t : State} (h : finishPoint st s = .ok t) : Actions s t := by
  by_cases past : s.regs.swNinc < s.regs.point
  · rw [finishPoint_overrun past] at h
    exact nomatch h
  · rw [finishPoint_store past] at h
    have stored := (Action.sample s.regs.bufRef s.regs.point (pointRecord s.regs) s).actions
    exact (stored.tail (.registers (by rfl))).trans (nextPoint_actions h)

theorem takeSample_actions {st : Byte} {re im : U16} {s t : State} (h : takeSample st re im s = .ok t) :
    Actions s t := by
  have sampled : Actions s (setRegs (accumulate re im s.regs) s) := (Action.registers (by rfl)).actions
  by_cases more : s.regs.avgCnt + 1 < s.regs.swAvg
  · rw [takeSample_repeat more] at h
    obtain rfl := Except.ok.inj h
    exact sampled.trans (ccWrite_actions _ _)
  · rw [takeSample_complete more] at h
    exact sampled.trans (finishPoint_actions h)

theorem tickPoll_actions {s t : State} (h : tickPoll s = .ok t) : Actions s t := by
  have polled := pollSample_actions s
  unfold tickPoll at h
  generalize pollSample s = r at polled h
  obtain ⟨_ | ⟨st, re, im⟩, u⟩ := r
  · obtain rfl := Except.ok.inj h
    exact polled
  · exact polled.trans (takeSample_actions h)

theorem tickTemp_actions (s : State) : Actions s (tickTemp s) := by
  have polled := pollTemp_actions s
  unfold tickTemp
  generalize pollTemp s = r at polled ⊢
  obtain ⟨_ | v, u⟩ := r
  · exact polled
  · exact (polled.tail (.temperature _ _ u)).tail (.registers (by rfl))

theorem execTick_actions {s t : State} (h : execTick s = .next t) : Actions (issueAs .tick s) t := by
  have count : Actions (issueAs .tick s) (countTick (issueAs .tick s)) := (Action.registers (by rfl)).actions
  cases st : s.regs.status with
  | uninit | idle | finishImpedance | finishTemp | finishCalib =>
    rw [execTick_quiet (by rw [st]; rfl)] at h
    obtain rfl := Host.Outcome.next.inj h
    exact count.tail (.reply _ _)
  | measureImpedance =>
    cases w : s.regs.waitActive
    · rw [execTick_poll st w] at h
      cases e : tickPoll (countTick (issueAs .tick s)) with
      | error f => rw [e] at h; exact nomatch h
      | ok u =>
        rw [e] at h
        obtain rfl := Host.Outcome.next.inj h
        exact (count.trans (tickPoll_actions e)).tail (.reply _ _)
    · rw [execTick_wait st w] at h
      obtain rfl := Host.Outcome.next.inj h
      exact (count.trans (tickWait_actions _)).tail (.reply _ _)
  | measureTemp =>
    rw [execTick_temp st] at h
    obtain rfl := Host.Outcome.next.inj h
    exact (count.trans (tickTemp_actions _)).tail (.reply _ _)
  | calibrate => rw [execTick_calibrate st] at h; exact nomatch h

/-! ### The commands of the host (43, 44) -/

theorem execInit_actions {s t : State} (h : execInit s = .next t) : Actions (issueAs .init s) t := by
  obtain rfl := Host.Outcome.next.inj h
  have begun := (Action.initialise (issueAs .init s)).actions.trans (chipReset_actions _)
  exact (begun.tail (.registers (by rfl))).tail (.reply _ _)

theorem execReset_actions {s t : State} (h : execReset s = .next t) : Actions (issueAs .reset s) t := by
  obtain rfl := Host.Outcome.next.inj h
  have cleared := (chipReset_actions (issueAs .reset s)).tail (.registers (by rfl))
  exact (cleared.tail (.registers (by rfl))).tail (.reply _ _)

theorem startSweep_actions {sw : SweepSpec} {rg : RangeSettings} {b : Handle} {s t : State}
    (h : startSweep sw rg b s = .next t) : Actions s t := by
  have captured : Actions s (setRegs (captureOperands sw rg b s.regs) s) := (Action.registers (by rfl)).actions
  unfold startSweep at h
  cases e : programSweep sw.start sw.increments (setRegs (captureOperands sw rg b s.regs) s) with
  | error f => rw [e] at h; exact nomatch h
  | ok r =>
    have programmed := captured.trans (programSweep_actions e)
    rw [e] at h
    obtain ⟨_ | _, u⟩ := r
    · obtain rfl := Host.Outcome.next.inj h
      exact programmed.tail (.ended _ u)
    · obtain rfl := Host.Outcome.next.inj h
      exact (programmed.tail (.registers (by rfl))).tail (.ended _ _)

theorem execMeasureImpedance_actions {sw : SweepSpec} {rg : RangeSettings} {b : Handle} {s t : State}
    (h : execMeasureImpedance sw rg b s = .next t) : Actions (issueAs .measureImpedance s) t := by
  by_cases v : validateSweep s sw = .none
  · rw [execMeasureImpedance_runs v] at h
    exact startSweep_actions h
  · rw [execMeasureImpedance_refused rfl v] at h
    obtain rfl := Host.Outcome.next.inj h
    exact (Action.ended _ _).actions

theorem execMeasureTemperature_actions {dest : Handle} {s t : State} (h : execMeasureTemperature dest s = .next t) :
    Actions (issueAs .measureTemperature s) t := by
  by_cases u : s.regs.status = .uninit
  · rw [execMeasureTemperature_uninit u] at h
    obtain rfl := Host.Outcome.next.inj h
    exact (Action.ended _ _).actions
  · cases b : isBusyStatus s.regs.status
    · rw [execMeasureTemperature_ready u b] at h
      obtain rfl := Host.Outcome.next.inj h
      have command : Actions (issueAs .measureTemperature s) (temperatureCommand dest s).2 :=
        (Action.registers (by rfl)).actions.trans (ccWrite_actions _ _)
      split
      · exact (command.tail (.registers (by rfl))).tail (.ended _ _)
      · exact command.tail (.ended _ _)
    · rw [execMeasureTemperature_busy b] at h
      obtain rfl := Host.Outcome.next.inj h
      exact (Action.ended _ _).actions

/-- Every operation that goes on is a sequence of single actions under its own tag. -/
theorem exec_actions {i : Instr} {s t : State} (h : exec i s = .next t) : Actions (issueAs (issuerOf i) s) t := by
  cases i with
  | init => exact execInit_actions h
  | reset => exact execReset_actions h
  | measureImpedance => exact execMeasureImpedance_actions h
  | measureTemperature => exact execMeasureTemperature_actions h
  | tick => exact execTick_actions h
  | isBusy | getSweepCount => exact Actions.replied .refl h
  | calibrate =>
    obtain rfl := Host.Outcome.next.inj h
    exact (Action.ended _ _).actions
  | setAddr a => exact (setAddr_actions a _).replied h
  | write8 a v => exact (write8_actions a v _).replied h
  | write16 a v => exact (write16_actions a v _).replied h
  | write24 a v => exact (write24_actions a v _).replied h
  | read8 a => exact (read8_actions a _).replied h
  | read16 a => exact (read16_actions a _).replied h
  | clWrite r c => exact (clWrite_actions r _).replied h
  | ccInit | ccStart | ccIncr | ccRepeat | ccMtemp | ccPdown | ccStandby => exact (ccWrite_actions _ _).replied h

/-! ### The generator's requests (42 rules R162, R163, R180) -/

theorem generatorRun_append (running : Bool) (es fs : List EventKind) :
    generatorRun running (es ++ fs) = (generatorRun running es).bind fun b => generatorRun b fs := by
  induction es generalizing running with
  | nil => rfl
  | cons e rest ih =>
    cases e with
    | cgSetPsc =>
      cases running
      · exact ih false
      · rfl
    | _ => exact ih _

/-- The requests of SETCLK stop the output before they set the prescaler, and end as the source wants it. -/
theorem generatorRun_clockRequests (s : State) (k : ClkIdx) :
    generatorRun s.regs.cgRun (clockRequests s k) = some (s.cfg.isExternal k) := by
  unfold clockRequests
  cases s.regs.cgRun <;> cases s.cfg.isExternal k <;> rfl

/-- From `s` to `t` the history grew under the tag of `s`, and its requests lead from the one run state to the other without
setting the prescaler while the output runs. -/
structure FollowsGenerator (s t : State) : Prop where
  issuer : t.issuer = s.issuer
  recorded : ∃ es, Recorded s.issuer es s t ∧ generatorRun s.regs.cgRun es = some t.regs.cgRun

theorem FollowsGenerator.refl (s : State) : FollowsGenerator s s :=
  ⟨rfl, [], (List.append_nil _).symm, rfl⟩

theorem FollowsGenerator.trans {s t u : State} (h : FollowsGenerator s t) (k : FollowsGenerator t u) :
    FollowsGenerator s u := by
  obtain ⟨tag, es, hes, first⟩ := h
  obtain ⟨tag', fs, hfs, second⟩ := k
  refine ⟨tag'.trans tag, es ++ fs, ?_, ?_⟩
  · rw [Recorded, hfs, hes, tag, List.map_append, List.append_assoc]
  · rw [generatorRun_append, first]
    exact second

theorem Action.followsGenerator {s t : State} (h : Action s t) : FollowsGenerator s t := by
  cases h with
  | frame bus => exact ⟨bus.issuer, _, bus.history, by rw [bus.regs]; rfl⟩
  | registers same => exact ⟨rfl, [], (List.append_nil _).symm, congrArg some same.symm⟩
  | reply => exact ⟨rfl, [], (List.append_nil _).symm, rfl⟩
  | ended | sample | temperature => exact ⟨rfl, [_], rfl, rfl⟩
  | selectClock k =>
    rw [clockPrepared_eq]
    exact ⟨rfl, _, rfl, generatorRun_clockRequests s k⟩
  | initialise => exact ⟨rfl, [.cgStop], rfl, rfl⟩

theorem Actions.followsGenerator {s t : State} (h : Actions s t) : FollowsGenerator s t := by
  induction h with
  | refl => exact .refl s
  | tail _ action ih => exact ih.trans action.followsGenerator

/-- Settles O56: each single action follows the generator, and every operation is a sequence of them. -/
theorem prescalerChangesOnlyWhileStopped : Obligations.PrescalerChangesOnlyWhileStopped :=
  fun _ _ _ h => (exec_actions h).followsGenerator.recorded

end Sys2Proof.Machine
end

section
/-! PROOF. Where TICK can fault under the invariant (42 rule R176, 43 rules R208, R209, 60 rule R243). -/

namespace Sys2Proof.Machine

open Sys2Proof.Claims

/-! ### The faults of TICK, case by case -/

/-- Why PROGRAM_SWEEP of the frequency `f` faults with the increment `inc` (42 rule R176). -/
inductive ProgramFault (c : Config) (inc f : U32) : Fault → Prop
  | noClock (band : selClk c f = none) : ProgramFault c inc f .noClockForFrequency
  | unfit {k : ClkIdx} (band : selClk c f = some k)
      (h : (fits24 f.toNat (rateOf c k) && fits24 inc.toNat (rateOf c k)) = false) :
      ProgramFault c inc f .frequencyNotRepresentable

/-- Why a completed point faults: it lies outside the caller's array, or the next frequency cannot be programmed. -/
inductive PointFault (c : Config) (r : Regs) : Fault → Prop
  | overrun (past : r.swNinc < r.point) : PointFault c r .bufferOverrun
  | program {e : Fault} (within : ¬ r.swNinc < r.point) (h : ProgramFault c r.swInc (r.freqCur + r.swInc) e) :
      PointFault c r e

theorem programSweep_fault {f : U32} {n : U16} {s : State} {e : Fault} (h : programSweep f n s = .error e) :
    ProgramFault s.cfg s.regs.swInc f e := by
  cases band : selClk s.cfg f with
  | none =>
    rw [programSweep_none band] at h
    exact Except.error.inj h ▸ .noClock band
  | some k =>
    cases fit : fits24 f.toNat (rateOf s.cfg k) && fits24 s.regs.swInc.toNat (rateOf s.cfg k)
    · rw [programSweep_unfit band fit] at h
      exact Except.error.inj h ▸ .unfit band fit
    · rw [programSweep_ok band fit] at h
      exact nomatch h

theorem nextPoint_fault {st : Byte} {s : State} {e : Fault} (h : nextPoint st s = .error e) :
    ProgramFault s.cfg s.regs.swInc s.regs.freqCur e := by
  cases d : sweepDone st
  · by_cases same : selClk s.cfg s.regs.freqCur = some s.regs.clkSel
    · rw [nextPoint_increment d same] at h
      exact nomatch h
    · rw [nextPoint_change d same] at h
      cases p : programSweep s.regs.freqCur (incrementsLeft s.regs) s with
      | error f =>
        rw [p] at h
        exact Except.error.inj h ▸ programSweep_fault p
      | ok r => rw [p] at h; exact nomatch h
  · rw [nextPoint_done d] at h
    exact nomatch h

theorem finishPoint_fault {st : Byte} {s : State} {e : Fault} (h : finishPoint st s = .error e) :
    PointFault s.cfg s.regs e := by
  by_cases past : s.regs.swNinc < s.regs.point
  · rw [finishPoint_overrun past] at h
    exact Except.error.inj h ▸ .overrun past
  · rw [finishPoint_store past] at h
    exact .program past (nextPoint_fault h)

theorem takeSample_fault {st : Byte} {re im : U16} {s : State} {e : Fault} (h : takeSample st re im s = .error e) :
    PointFault s.cfg s.regs e := by
  by_cases more : s.regs.avgCnt + 1 < s.regs.swAvg
  · rw [takeSample_repeat more] at h
    exact nomatch h
  · rw [takeSample_complete more] at h
    cases finishPoint_fault h with
    | overrun past => exact .overrun past
    | program within fault => exact .program within fault

theorem tickPoll_fault {s : State} {e : Fault} (h : tickPoll s = .error e) : PointFault s.cfg s.regs e := by
  have polled := pollSample_usesBus s
  unfold tickPoll at h
  generalize pollSample s = r at polled h
  obtain ⟨_ | ⟨st, re, im⟩, u⟩ := r
  · exact nomatch h
  · have fault := takeSample_fault h
    rwa [polled.cfg, polled.regs] at fault

/-- TICK faults only where it polls for a sample, and then at a completed point. -/
theorem execTick_fault {s : State} {e : Fault} (h : execTick s = .fault e) :
    s.regs.status = .measureImpedance ∧ s.regs.waitActive = false ∧ PointFault s.cfg s.regs e := by
  cases st : s.regs.status with
  | uninit | idle | finishImpedance | finishTemp | finishCalib =>
    rw [execTick_quiet (by rw [st]; rfl)] at h
    exact nomatch h
  | measureImpedance =>
    cases w : s.regs.waitActive
    · rw [execTick_poll st w] at h
      cases poll : tickPoll (countTick (issueAs .tick s)) with
      | error f =>
        rw [poll] at h
        obtain rfl := Host.Outcome.fault.inj h
        refine ⟨rfl, rfl, ?_⟩
        cases tickPoll_fault poll with
        | overrun past => exact .overrun past
        | program within fault => exact .program within fault
      | ok u => rw [poll] at h; exact nomatch h
    · rw [execTick_wait st w] at h
      exact nomatch h
  | measureTemp =>
    rw [execTick_temp st] at h
    exact nomatch h
  | calibrate =>
    rw [execTick_calibrate st] at h
    exact nomatch h

/-! ### The next frequency of a running sweep -/

/-- Before the last programmed point, the next frequency does not wrap. -/
theorem SweepInv.next_freq {c : Config} {r : Regs} (h : SweepInv c r) (before : r.point.toNat < r.swNinc.toNat) :
    (r.freqCur + r.swInc).toNat = r.freqCur.toNat + r.swInc.toNat := by
  have last : pointFreq r (r.point.toNat + 1) ≤ pointFreq r r.swNinc.toNat :=
    Nat.add_le_add_left (Nat.mul_le_mul_right _ before) _
  have next : pointFreq r (r.point.toNat + 1) = pointFreq r r.point.toNat + r.swInc.toNat := by
    rw [pointFreq, pointFreq, Nat.add_one_mul, Nat.add_assoc]
  have bound := h.no_wrap
  have cur := h.freq_eq
  rw [Nat.mod_eq_of_lt (by omega)] at cur
  rw [BitVec.toNat_add, Nat.mod_eq_of_lt (by omega)]

/-- Before the last programmed point, the next frequency lies in a band, and no lower than the selected clock's. -/
theorem SweepInv.next_band {c : Config} {r : Regs} (h : SweepInv c r) (w : c.WfClocks)
    (before : r.point.toNat < r.swNinc.toNat) : ∃ l, selClk c (r.freqCur + r.swInc) = some l ∧ r.clkSel ≤ l := by
  obtain ⟨k, band, le⟩ := h.band_le before.le
  have rises : r.freqCur ≤ r.freqCur + r.swInc := by
    rw [BitVec.le_def, h.next_freq before]
    exact Nat.le_add_right _ _
  obtain ⟨l, next, le'⟩ := selClk_mono w rises band
  exact ⟨l, next, le.trans le'⟩

/-- Under the invariant of a sweep, PROGRAM_SWEEP for the next point faults only at the last programmed point, or for a
frequency without a code under the fastest clock: the increment has one under the selected clock, and so under every faster
one. -/
theorem SweepInv.programFault {c : Config} {r : Regs} (h : SweepInv c r) (w : c.WfClocks)
    (within : r.point.toNat ≤ r.swNinc.toNat) {e : Fault} (fault : ProgramFault c r.swInc (r.freqCur + r.swInc) e) :
    r.point = r.swNinc ∨ e = .frequencyNotRepresentable ∧ rateOf c 3 ≤ 32 * (r.freqCur.toNat + r.swInc.toNat) := by
  obtain last | before := within.eq_or_lt
  · exact .inl (BitVec.eq_of_toNat_eq last)
  · obtain ⟨l, next, le⟩ := h.next_band w before
    cases fault with
    | noClock band => exact nomatch band.symm.trans next
    | @unfit k band unfit =>
      obtain rfl : k = l := Option.some.inj (band.symm.trans next)
      have incFits : fits24 r.swInc.toNat (rateOf c k) = true :=
        (fits24_rateOf_iff w _).2 (((fits24_rateOf_iff w _).1 h.increment_fits).trans_le (rateOf_mono w le))
      rw [incFits, Bool.and_true, ← Bool.not_eq_true, fits24_rateOf_iff w, not_lt, h.next_freq before] at unfit
      by_cases top : k = 3
      · exact .inr ⟨rfl, top ▸ unfit⟩
      · have below := selClk_below_rate w band top
        rw [h.next_freq before] at below
        exact absurd unfit below.not_ge

/-- Settles O58: a completed point past the array is the one after the last; for any other, PROGRAM_SWEEP faults. -/
theorem tickFaultsOnlyPastTheSweepOrTheRange : Obligations.TickFaultsOnlyPastTheSweepOrTheRange := by
  intro s e inv h
  obtain ⟨status, noWait, fault⟩ := execTick_fault h
  have sweep := inv.sweep status
  obtain ⟨-, -, -, clocks⟩ := inv.config
  refine ⟨status, noWait, ?_⟩
  cases fault with
  | overrun past => exact ⟨fun _ => le_antisymm sweep.point_le past, nofun, nofun⟩
  | program within fault =>
    have cause := sweep.programFault clocks (not_lt.1 within) fault
    refine ⟨fun e => ?_, fun e => ?_, fun _ => cause.imp_right And.right⟩
    · subst e; exact nomatch fault
    · subst e; exact cause.resolve_right nofun

end Sys2Proof.Machine
end

section
/-! PROOF. The statements of one TICK (43 rules R202 to R211): what it does outside the block's registers, the poll, the
sample added and the point stored, and each way the tick can go on from there. -/

namespace Sys2Proof.Machine

open Sys2Proof.Claims

/-! ### What an operation does outside the registers, the generator and the callers' memory -/

theorem environmentKept_trans {s t u : State} (h : EnvironmentKept s t) (k : EnvironmentKept t u) :
    EnvironmentKept s u :=
  have ⟨cfg, requests⟩ := h
  have ⟨cfg', requests'⟩ := k
  ⟨cfg'.trans cfg, requests'.trans requests⟩

theorem recorded_trans {i : Issuer} {es fs : List EventKind} {s t u : State} (h : Recorded i es s t)
    (k : Recorded i fs t u) : Recorded i (es ++ fs) s u := by
  rw [Recorded] at h k ⊢
  rw [k, h, List.map_append, List.append_assoc]

theorem chipBytesKept_trans {P : Byte → Prop} {s t u : State} (h : ChipBytesKeptOutside (fun _ => False) s t)
    (k : ChipBytesKeptOutside P t u) : ChipBytesKeptOutside P s u :=
  fun x hx => (k x hx).trans (h x id)

theorem drew_trans {n m : Nat} {s t u : State} (h : Drew n s t) (k : Drew m t u) : Drew (n + m) s u :=
  have ⟨answers, draws⟩ := h
  have ⟨answers', draws'⟩ := k
  ⟨by rw [answers', answers, List.drop_drop], by rw [draws', draws, Nat.add_assoc]⟩

/-- From `s` to `t`, `n` frames and the events `es` under the tag of `s`, bytes to addresses in `P` only, and the
environment left alone. Nothing is said of the registers, the generator and the callers' memory. -/
structure Effect (P : Byte → Prop) (n : Nat) (es : List EventKind) (s t : State) : Prop where
  environment : EnvironmentKept s t
  issuer : t.issuer = s.issuer
  drew : Drew n s t
  recorded : Recorded s.issuer es s t
  upcoming : ∀ j, upcoming t j = upcoming s (n + j)
  bytes : ChipBytesKeptOutside P s t

theorem BusOnly.effect {P : Byte → Prop} {n : Nat} {es : List EventKind} {s t : State} (h : BusOnly P n es s t) :
    Effect P n es s t where
  environment := ⟨h.cfg, h.requests⟩
  issuer := h.issuer
  drew := ⟨h.answers, h.draws⟩
  recorded := h.history
  upcoming := h.upcoming
  bytes := h.bytes

theorem setRegs_effect (r : Regs) (s : State) : Effect (fun _ => False) 0 [] s (setRegs r s) where
  environment := ⟨rfl, rfl⟩
  issuer := rfl
  drew := ⟨rfl, rfl⟩
  recorded := (List.append_nil _).symm
  upcoming j := by rw [Nat.zero_add, setRegs_upcoming]
  bytes _ _ := rfl

theorem writeSample_effect (ref : Handle) (i : U16) (rec : Sample) (s : State) :
    Effect (fun _ => False) 0 [.bufWrite ref i rec] s (writeSample ref i rec s) where
  environment := ⟨rfl, rfl⟩
  issuer := rfl
  drew := ⟨rfl, rfl⟩
  recorded := rfl
  upcoming j := by rw [Nat.zero_add, writeSample_upcoming]
  bytes _ _ := rfl

/-- A further effect, after one that sent the chip no byte. -/
theorem Effect.trans {P : Byte → Prop} {n m : Nat} {es fs : List EventKind} {s t u : State}
    (h : Effect (fun _ => False) n es s t) (k : Effect P m fs t u) : Effect P (n + m) (es ++ fs) s u where
  environment := environmentKept_trans h.environment k.environment
  issuer := k.issuer.trans h.issuer
  drew := drew_trans h.drew k.drew
  recorded := recorded_trans h.recorded (h.issuer ▸ k.recorded)
  upcoming j := by rw [k.upcoming, h.upcoming, Nat.add_assoc]
  bytes := chipBytesKept_trans h.bytes k.bytes

theorem callersKept_trans {s t u : State} (h : CallersKept s t) (k : CallersKept t u) : CallersKept s u :=
  have ⟨samples, temps⟩ := h
  have ⟨samples', temps'⟩ := k
  ⟨fun ref i => (samples' ref i).trans (samples ref i), fun ref => (temps' ref).trans (temps ref)⟩

/-- A control-byte command, with the selectors of a state that has the same parameters and selectors. -/
theorem ccWrite_bus (fc : BitVec 4) {s u : State} (cfg : u.cfg = s.cfg) (vr : u.regs.rgVr = s.regs.rgVr)
    (pga : u.regs.rgPga = s.regs.rgPga) :
    BusOnly (fun x => x = s.cfg.aCtrlHi) 1 [controlOf s fc (verdict u 0)] u (ccWrite fc u).2 := by
  have bus := (ccWrite_spec fc u).2
  rwa [cfg, vr, pga] at bus

/-! ### Reading (43 rules R205, R206): the chip receives nothing -/

theorem operationCount_append (es fs : List EventKind) :
    operationCount (es ++ fs) = operationCount es + operationCount fs :=
  List.countP_append

theorem requestCount_append (es fs : List EventKind) :
    requestCount (es ++ fs) = requestCount es + requestCount fs :=
  List.countP_append

/-- From `s` to `t` at most `m` read operations, whatever came of them. -/
def Reads (m : Nat) (s t : State) : Prop :=
  ∃ n es, BusOnly (fun _ => False) n es s t ∧ operationCount es ≤ m ∧ requestCount es = 0

theorem Reads.trans {m k : Nat} {s t u : State} (h : Reads m s t) (g : Reads k t u) : Reads (m + k) s u := by
  obtain ⟨n, es, bus, ops, reqs⟩ := h
  obtain ⟨n', fs, bus', ops', reqs'⟩ := g
  refine ⟨n + n', es ++ fs, (bus.trans bus').weaken (by simp), ?_, ?_⟩
  · rw [operationCount_append]
    exact Nat.add_le_add ops ops'
  · rw [requestCount_append]
    exact congrArg₂ (· + ·) reqs reqs'

theorem Reads.mono {m k : Nat} {s t : State} (h : Reads m s t) (le : m ≤ k) : Reads k s t := by
  obtain ⟨n, es, bus, ops, reqs⟩ := h
  exact ⟨n, es, bus, ops.trans le, reqs⟩

theorem read8_reads (a : Byte) (s : State) : Reads 1 s (read8 a s).2 := by
  cases h : (upcoming s 0).ok
  · rw [read8_fail a h]
    exact ⟨1, _, framePointerSet_busOnly a s, Nat.le_refl 1, rfl⟩
  · exact ⟨2, _, (read8_ok a h).2, Nat.le_refl 1, rfl⟩

theorem read16_reads (a : Byte) (s : State) : Reads 1 s (read16 a s).2 := by
  cases h : (upcoming s 0).ok
  · rw [read16_fail a h]
    exact ⟨1, _, framePointerSet_busOnly a s, Nat.le_refl 1, rfl⟩
  · exact ⟨2, _, (read16_ok a h).2, Nat.le_refl 1, rfl⟩

theorem pollSample_reads (s : State) : Reads 3 s (pollSample s).2 := by
  have status := read8_reads s.cfg.aStatus s
  have real := status.trans (read16_reads (read8 s.cfg.aStatus s).2.cfg.aReal _)
  obtain h | h | h := pollSample_snd s <;> rw [h]
  · exact status.mono (by decide)
  · exact real.mono (by decide)
  · exact real.trans (read16_reads _ _)

theorem pollTemp_reads (s : State) : Reads 2 s (pollTemp s).2 := by
  have status := read8_reads s.cfg.aStatus s
  obtain h | h := pollTemp_snd s <;> rw [h]
  · exact status.mono (by decide)
  · exact status.trans (read16_reads _ _)

/-- READ8 with both frames OK, in the words of the statements. -/
theorem read8_whole (a : Byte) {s : State} (h0 : verdict s 0 = true) (h1 : verdict s 1 = true) :
    ∃ u, read8 a s = (some (upcoming s 1).b0, u) ∧ BusOnly (fun _ => False) 2
      [pointerSetOf s a true, byteReceiveOf s a [(upcoming s 1).b0] true] s u := by
  have ⟨value, bus⟩ := read8_ok a (s := s) h0
  rw [show (upcoming s 1).ok = true from h1] at value bus
  exact ⟨_, Prod.ext value rfl, bus⟩

/-- READ16 with both frames OK, in the words of the statements. -/
theorem read16_whole (a : Byte) {s : State} (h0 : verdict s 0 = true) (h1 : verdict s 1 = true) :
    ∃ u, read16 a s = (some (wordAnswer s 1), u) ∧ BusOnly (fun _ => False) 2
      [pointerSetOf s a true, blockReadOf s a [(upcoming s 1).b0, (upcoming s 1).b1] true] s u := by
  have ⟨value, bus⟩ := read16_ok a (s := s) h0
  rw [show (upcoming s 1).ok = true from h1] at value bus
  exact ⟨_, Prod.ext value rfl, bus⟩

/-- With a sample there, the poll gives the status byte and the two samples over six frames. -/
theorem pollSample_available {s : State} (h : SampleAvailable s) : ∃ u,
    pollSample s = (some ((upcoming s 1).b0, wordAnswer s 3, wordAnswer s 5), u) ∧
    BusOnly (fun _ => False) 6 (sampleFrames s) s u := by
  obtain ⟨ok, valid⟩ := h
  have verdict_of {n : Nat} {es : List EventKind} {t : State} (bus : BusOnly (fun _ => False) n es s t) (j : Nat)
      (small : n + j < 6) : verdict t j = true := by
    rw [verdict, bus.upcoming]
    exact ok _ small
  obtain ⟨u1, status, bus1⟩ := read8_whole s.cfg.aStatus (ok 0 (by decide)) (ok 1 (by decide))
  obtain ⟨u2, real, step2⟩ := read16_whole s.cfg.aReal (verdict_of bus1 0 (by decide)) (verdict_of bus1 1 (by decide))
  have bus2 := (bus1.trans step2).weaken (Q := fun _ => False) (by simp)
  obtain ⟨u3, imag, step3⟩ := read16_whole s.cfg.aImag (verdict_of bus2 0 (by decide)) (verdict_of bus2 1 (by decide))
  have bus3 := (bus2.trans step3).weaken (Q := fun _ => False) (by simp)
  have events : [pointerSetOf s s.cfg.aStatus true, byteReceiveOf s s.cfg.aStatus [(upcoming s 1).b0] true] ++
      [pointerSetOf u1 s.cfg.aReal true, blockReadOf u1 s.cfg.aReal [(upcoming u1 1).b0, (upcoming u1 1).b1] true] ++
      [pointerSetOf u2 s.cfg.aImag true, blockReadOf u2 s.cfg.aImag [(upcoming u2 1).b0, (upcoming u2 1).b1] true] =
      sampleFrames s := by
    simp only [pointerSetOf, blockReadOf, frameOf, bus1.cfg, bus2.cfg, bus1.upcoming, bus2.upcoming]
    rfl
  rw [events] at bus3
  refine ⟨u3, ?_, bus3⟩
  simp only [pollSample, status, valid, if_true, bus1.cfg, real, bus2.cfg, imag, wordAnswer, bus1.upcoming,
    bus2.upcoming]

/-- READ8 gives a value only when both its frames were OK, and then the status of a poll is the second answer's byte. -/
theorem read8_some {a v : Byte} {s u : State} (h : read8 a s = (some v, u)) : verdict s 0 = true ∧ verdict s 1 = true ∧
    v = (upcoming s 1).b0 ∧ ∀ j, upcoming u j = upcoming s (2 + j) := by
  obtain ⟨ok0, ok1, value, bus⟩ | ⟨-, value, -⟩ := read8_result a s <;> rw [h] at value
  · rw [h] at bus
    exact ⟨ok0, ok1, Option.some.inj value, bus.upcoming⟩
  · exact nomatch value

/-- READ16 gives a value only when both its frames were OK. -/
theorem read16_some {a : Byte} {v : U16} {s u : State} (h : read16 a s = (some v, u)) :
    verdict s 0 = true ∧ verdict s 1 = true ∧ ∀ j, upcoming u j = upcoming s (2 + j) := by
  obtain ⟨ok0, ok1, -, bus⟩ | ⟨-, value, -⟩ := read16_result a s
  · rw [h] at bus
    exact ⟨ok0, ok1, bus.upcoming⟩
  · rw [h] at value
    exact nomatch value

/-- A poll that gives a sample had one to give. -/
theorem sampleAvailable_of_pollSample {s : State} {x : Byte × U16 × U16} (h : (pollSample s).1 = some x) :
    SampleAvailable s := by
  unfold pollSample at h
  split at h
  · exact nomatch h
  · next st s1 status =>
    split_ifs at h with valid
    obtain ⟨ok0, ok1, rfl, coming1⟩ := read8_some status
    split at h
    · exact nomatch h
    · next re s2 real =>
      obtain ⟨ok2, ok3, coming2⟩ := read16_some real
      split at h
      · exact nomatch h
      · next im s3 imag =>
        obtain ⟨ok4, ok5, -⟩ := read16_some imag
        rw [verdict, coming2, coming1] at ok4 ok5
        rw [verdict, coming1] at ok2 ok3
        refine ⟨fun j hj => ?_, valid⟩
        interval_cases j <;> assumption

theorem pollSample_unavailable {s : State} (h : ¬ SampleAvailable s) : pollSample s = (none, (pollSample s).2) := by
  cases e : (pollSample s).1 with
  | none => exact Prod.ext e rfl
  | some x => exact absurd (sampleAvailable_of_pollSample e) h

/-! ### The states a polling TICK goes through -/

/-- TICK once it has counted (43 rule R202). -/
def ticked (s : State) : State := countTick (issueAs .tick s)

/-- TICK once it has polled (43 rules R205, R206). -/
def polled (s : State) : State := (pollSample (ticked s)).2

/-- TICK once it has added the coming sample (43 rule R207). -/
def sampled (s : State) : State := setRegs (accumulate (wordAnswer s 3) (wordAnswer s 5) (polled s).regs) (polled s)

/-- TICK once it has stored the point that the coming sample completes (43 rules R208, R209). -/
def stored (s : State) : State :=
  setRegs (advancePoint (sampled s).regs)
    (writeSample (sampled s).regs.bufRef (sampled s).regs.point (pointRecord (sampled s).regs) (sampled s))

section Polled

variable {s : State}

theorem polled_reads (s : State) : Reads 3 (ticked s) (polled s) := pollSample_reads (ticked s)

@[simp] theorem polled_cfg (s : State) : (polled s).cfg = s.cfg := (pollSample_usesBus (ticked s)).cfg

@[simp] theorem polled_regs (s : State) : (polled s).regs = counted s.regs := (pollSample_usesBus (ticked s)).regs

theorem polled_gen (s : State) : (polled s).gen = s.gen := by
  obtain ⟨_, _, bus, -⟩ := polled_reads s
  exact bus.gen

theorem polled_callers (s : State) : CallersKept s (polled s) := by
  obtain ⟨_, _, bus, -⟩ := polled_reads s
  exact callersKept_of_eq bus.buf bus.temp

theorem polled_effect (h : SampleAvailable s) : Effect (fun _ => False) 6 (sampleFrames s) (ticked s) (polled s) := by
  obtain ⟨u, poll, bus⟩ := pollSample_available (s := ticked s) h
  rw [polled, poll]
  exact bus.effect

theorem tickPoll_available (h : SampleAvailable s) : tickPoll (ticked s) =
    takeSample (upcoming s 1).b0 (wordAnswer s 3) (wordAnswer s 5) (polled s) := by
  obtain ⟨u, poll, -⟩ := pollSample_available (s := ticked s) h
  rw [tickPoll, polled, poll]
  rfl

theorem tickPoll_unavailable (h : ¬ SampleAvailable s) : tickPoll (ticked s) = .ok (polled s) := by
  rw [tickPoll, pollSample_unavailable (s := ticked s) h]
  rfl

end Polled

section Sampled

variable {s : State}

@[simp] theorem sampled_cfg (s : State) : (sampled s).cfg = s.cfg := polled_cfg s

@[simp] theorem sampled_regs (s : State) :
    (sampled s).regs = accumulate (wordAnswer s 3) (wordAnswer s 5) (counted s.regs) := by
  rw [sampled, setRegs_regs, polled_regs]

theorem sampled_gen (s : State) : (sampled s).gen = s.gen := polled_gen s

theorem sampled_callers (s : State) : CallersKept s (sampled s) := polled_callers s

theorem sampled_effect (h : SampleAvailable s) : Effect (fun _ => False) 6 (sampleFrames s) (ticked s) (sampled s) := by
  have effect := (polled_effect h).trans
    (setRegs_effect (accumulate (wordAnswer s 3) (wordAnswer s 5) (polled s).regs) _)
  rwa [List.append_nil] at effect

theorem tickPoll_repeat (h : SampleAvailable s) (more : s.regs.avgCnt + 1 < s.regs.swAvg) :
    tickPoll (ticked s) = .ok (ccWrite s.cfg.fcRepeat (sampled s)).2 := by
  rw [tickPoll_available h, takeSample_repeat (by rwa [polled_regs]), polled_cfg]
  rfl

theorem tickPoll_complete (h : SampleAvailable s) (full : ¬ s.regs.avgCnt + 1 < s.regs.swAvg) :
    tickPoll (ticked s) = finishPoint (upcoming s 1).b0 (sampled s) := by
  rw [tickPoll_available h, takeSample_complete (by rwa [polled_regs])]
  rfl

end Sampled

section Stored

variable {s : State}

@[simp] theorem stored_cfg (s : State) : (stored s).cfg = s.cfg := sampled_cfg s

@[simp] theorem stored_regs (s : State) : (stored s).regs = advanced s.regs := by
  rw [stored, setRegs_regs, sampled_regs]
  rfl

theorem stored_gen (s : State) : (stored s).gen = s.gen := sampled_gen s

theorem stored_effect (h : SampleAvailable s) : Effect (fun _ => False) 6 (pointEvents s) (ticked s) (stored s) := by
  have written := (sampled_effect h).trans (writeSample_effect (sampled s).regs.bufRef (sampled s).regs.point
    (pointRecord (sampled s).regs) (sampled s))
  have effect := written.trans (setRegs_effect (advancePoint (sampled s).regs) _)
  rw [List.append_nil, sampled_regs] at effect
  rw [stored, sampled_regs]
  exact effect

theorem stored_pointStored (s : State) : PointStored s (stored s) := by
  obtain ⟨samples, temps⟩ := sampled_callers s
  have sample (ref : Handle) (i : U16) : sampleAt (stored s) ref i =
      if ref = s.regs.bufRef ∧ i = s.regs.point then some (recordOf s) else sampleAt (sampled s) ref i := by
    have write := sampleAt_writeSample (sampled s).regs.bufRef (sampled s).regs.point (pointRecord (sampled s).regs)
      (sampled s) ref i
    rw [sampled_regs] at write
    rw [stored, sampled_regs]
    exact write
  refine ⟨?_, fun ref i other => ?_, fun ref => temps ref⟩
  · rw [sample, if_pos ⟨rfl, rfl⟩]
  · rw [sample, if_neg other, samples]

theorem pointStored_of_callersKept {s t u : State} (h : PointStored s t) (k : CallersKept t u) : PointStored s u := by
  obtain ⟨here, elsewhere, temps⟩ := h
  obtain ⟨samples, temps'⟩ := k
  exact ⟨(samples _ _).trans here, fun ref i other => (samples ref i).trans (elsewhere ref i other),
    fun ref => (temps' ref).trans (temps ref)⟩

end Stored

/-! ### TICK by the case of its poll -/

section Tick

variable {s : State}

theorem execTick_counts (status : s.regs.status = .measureImpedance) (noWait : s.regs.waitActive = false)
    (h : ¬ SampleAvailable s) : execTick s = .next (returnStatus (polled s)) := by
  have poll := tickPoll_unavailable h
  rw [ticked] at poll
  rw [execTick_poll status noWait, poll, endTick]

theorem execTick_repeats (h : Sampling s) (more : s.regs.avgCnt + 1 < s.regs.swAvg) :
    execTick s = .next (returnStatus (ccWrite s.cfg.fcRepeat (sampled s)).2) := by
  obtain ⟨status, noWait, sample⟩ := h
  have poll := tickPoll_repeat sample more
  rw [ticked] at poll
  rw [execTick_poll status noWait, poll, endTick]

theorem execTick_finishPoint (h : Sampling s) (full : ¬ s.regs.avgCnt + 1 < s.regs.swAvg) :
    execTick s = endTick (finishPoint (upcoming s 1).b0 (sampled s)) := by
  obtain ⟨status, noWait, sample⟩ := h
  have poll := tickPoll_complete sample full
  rw [ticked] at poll
  rw [execTick_poll status noWait, poll]

theorem execTick_overrun (h : Sampling s) (full : ¬ s.regs.avgCnt + 1 < s.regs.swAvg)
    (past : s.regs.swNinc < s.regs.point) : execTick s = .fault .bufferOverrun := by
  rw [execTick_finishPoint h full, finishPoint_overrun (by rwa [sampled_regs]), endTick]

theorem execTick_nextPoint (h : CompletesPoint s) :
    execTick s = endTick (nextPoint (upcoming s 1).b0 (stored s)) := by
  obtain ⟨sampling, full, within⟩ := h
  rw [execTick_finishPoint sampling full, finishPoint_store (by rw [sampled_regs]; exact BitVec.not_lt.2 within)]
  rfl

theorem execTick_finishes (h : CompletesPoint s) (done : sweepDone (upcoming s 1).b0 = true) :
    execTick s = .next (returnStatus (setStatus .finishImpedance (stored s))) := by
  rw [execTick_nextPoint h, nextPoint_done done, endTick]

theorem execTick_increments (h : CompletesPoint s) (notDone : sweepDone (upcoming s 1).b0 = false)
    (band : selClk s.cfg (s.regs.freqCur + s.regs.swInc) = some s.regs.clkSel) :
    execTick s = .next (returnStatus (ccWrite s.cfg.fcIncr (stored s)).2) := by
  rw [execTick_nextPoint h, nextPoint_increment notDone (by rwa [stored_cfg, stored_regs]), endTick, stored_cfg]

theorem execTick_programs (h : CompletesPoint s) (notDone : sweepDone (upcoming s 1).b0 = false)
    (band : selClk s.cfg (s.regs.freqCur + s.regs.swInc) ≠ some s.regs.clkSel) :
    execTick s = endTick
      ((programSweep (s.regs.freqCur + s.regs.swInc) (incrementsLeft (advanced s.regs)) (stored s)).map Prod.snd) := by
  rw [execTick_nextPoint h, nextPoint_change notDone (by rwa [stored_cfg, stored_regs]), stored_regs]
  rfl

theorem execTick_noClock (h : CompletesPoint s) (notDone : sweepDone (upcoming s 1).b0 = false)
    (band : selClk s.cfg (s.regs.freqCur + s.regs.swInc) = none) : execTick s = .fault .noClockForFrequency := by
  have exec := execTick_programs h notDone (by rw [band]; nofun)
  rwa [programSweep_none (by rwa [stored_cfg])] at exec

theorem execTick_unfit (h : CompletesPoint s) (notDone : sweepDone (upcoming s 1).b0 = false) {k : ClkIdx}
    (band : selClk s.cfg (s.regs.freqCur + s.regs.swInc) = some k) (other : k ≠ s.regs.clkSel)
    (unfit : (fits24 (s.regs.freqCur + s.regs.swInc).toNat (rateOf s.cfg k) &&
      fits24 s.regs.swInc.toNat (rateOf s.cfg k)) = false) : execTick s = .fault .frequencyNotRepresentable := by
  have exec := execTick_programs h notDone fun e => other (Option.some.inj (band.symm.trans e))
  rwa [programSweep_unfit (k := k) (by rwa [stored_cfg]) (by rw [stored_cfg, stored_regs]; exact unfit)] at exec

end Tick

/-! ### The statements -/

/-- A TICK that only counts changes nothing else. -/
theorem ticked_nothingChanged (s : State) : NothingChanged (setRegs (counted s.regs) s) (returnStatus (ticked s)) :=
  ⟨⟨⟨rfl, rfl⟩, rfl, rfl, callersKept_of_eq rfl rfl⟩, rfl, fun _ _ => rfl, rfl, rfl⟩

theorem ticked_recorded (s : State) : Recorded .tick [] s (returnStatus (ticked s)) := (List.append_nil _).symm

/-- Settles O38: outside the busy states TICK ends once it has counted. -/
theorem tickOutsideBusyOnlyCounts : Obligations.TickOutsideBusyOnlyCounts := fun s h =>
  ⟨_, execTick_quiet h, rfl, rfl, ticked_nothingChanged s, ticked_recorded s⟩

/-- Settles O39: the comparison is with the tick already counted. -/
theorem tickWaitsForTheCapacitor : Obligations.TickWaitsForTheCapacitor := by
  intro s status waiting
  have tick : execTick s = .next (returnStatus (tickWait (ticked s))) := execTick_wait status waiting
  have elapsed : waitElapsed (ticked s).cfg (ticked s).regs =
      decide (s.cfg.waitTicks < (s.regs.tickCnt + 1 - s.regs.waitStart).toNat) := rfl
  by_cases past : s.cfg.waitTicks < (s.regs.tickCnt + 1 - s.regs.waitStart).toNat
  · rw [tickWait_start (elapsed.trans (decide_eq_true past))] at tick
    have bus := (ccWrite_spec s.cfg.fcStart (ticked s)).2
    have regs : (ccWrite s.cfg.fcStart (ticked s)).2.regs = counted s.regs := bus.regs
    refine ⟨_, tick, ?_, fun still => absurd past (not_lt.2 still), fun _ => ⟨?_, ?_, ⟨bus.cfg, bus.requests⟩,
      callersKept_of_eq bus.buf bus.temp, bus.gen⟩⟩
    · rw [returnStatus_reply, setRegs_regs]
      exact congrArg Reply.status ((congrArg Regs.status regs).trans status)
    · exact congrArg (fun r : Regs => { r with waitActive := false }) regs
    · exact write8_byteWritten .tick s.cfg.aCtrlHi _ (setRegs (counted s.regs) s) (.status .measureImpedance)
  · rw [tickWait_idle (elapsed.trans (decide_eq_false past))] at tick
    exact ⟨_, tick, congrArg Reply.status status, fun _ => ⟨rfl, ticked_nothingChanged s, ticked_recorded s⟩,
      fun h => absurd h past⟩

/-- Settles O40: a poll that gives no sample uses the bus for reading alone. -/
theorem tickWithoutSampleOnlyCounts : Obligations.TickWithoutSampleOnlyCounts := by
  intro s status noWait h
  obtain ⟨_, _, bus, -⟩ := polled_reads s
  refine ⟨_, execTick_counts status noWait h, ?_, polled_regs s, polled_gen s, ⟨bus.cfg, bus.requests⟩, polled_callers s,
    bus.bytes⟩
  rw [returnStatus_reply, polled_regs]
  exact congrArg Reply.status status

/-- Settles O41: after the six reading frames and the sums, CC_REPEAT is one frame more. -/
theorem tickAccumulatesAndRepeats : Obligations.TickAccumulatesAndRepeats := by
  intro s h more
  have ⟨status, _, sample⟩ := h
  have read := sampled_effect sample
  have bus := ccWrite_bus s.cfg.fcRepeat (s := s) (u := sampled s) (sampled_cfg s) (by rw [sampled_regs]; rfl)
    (by rw [sampled_regs]; rfl)
  have regs := bus.regs.trans (sampled_regs s)
  rw [verdict, read.upcoming] at bus
  have effect := read.trans bus.effect
  refine ⟨_, execTick_repeats h more, ?_, regs, effect.recorded, effect.drew, bus.gen.trans (sampled_gen s),
    effect.environment, callersKept_trans (sampled_callers s) (callersKept_of_eq bus.buf bus.temp), effect.bytes⟩
  rw [returnStatus_reply, regs]
  exact congrArg Reply.status status

/-- Settles O42: the state in which the point has been stored, with STATUS replaced. -/
theorem tickFinishesTheSweep : Obligations.TickFinishesTheSweep := by
  intro s h done
  have ⟨⟨_, _, sample⟩, _⟩ := h
  have effect := stored_effect sample
  refine ⟨_, execTick_finishes h done, rfl, ?_, stored_pointStored s, effect.recorded, effect.drew, stored_gen s,
    effect.environment, effect.bytes⟩
  rw [returnStatus_regs, setStatus_regs, stored_regs]

/-- Settles O43: from the state in which the point has been stored, CC_INCR is one frame more. -/
theorem tickStoresAndIncrements : Obligations.TickStoresAndIncrements := by
  intro s h notDone band
  have ⟨⟨status, _, sample⟩, _⟩ := h
  have store := stored_effect sample
  have bus := ccWrite_bus s.cfg.fcIncr (s := s) (u := stored s) (stored_cfg s) (by rw [stored_regs]; rfl)
    (by rw [stored_regs]; rfl)
  have regs := bus.regs.trans (stored_regs s)
  rw [verdict, store.upcoming] at bus
  have effect := store.trans bus.effect
  refine ⟨_, execTick_increments h notDone band, ?_, regs,
    pointStored_of_callersKept (stored_pointStored s) (callersKept_of_eq bus.buf bus.temp), effect.recorded, effect.drew,
    bus.gen.trans (stored_gen s), effect.environment, effect.bytes⟩
  rw [returnStatus_reply, regs]
  exact congrArg Reply.status status

/-- The plan of PROGRAM_SWEEP depends on the parameters and on registers that storing a point leaves alone. -/
theorem sweepPlan_stored (s : State) (k : ClkIdx) (f : U32) (n : U16) :
    sweepPlan (stored s) k f n = sweepPlan s k f n := by
  simp only [sweepPlan, controlOf, clockRequests, clockBitOf, write24Plan, write16Plan, byteWriteOf, pointerSetOf,
    blockWrite24Of, blockWrite16Of, frameOf, stored_cfg, stored_regs, advanced]

/-- Settles O44: PROGRAM_SWEEP follows its plan (O27) from the state in which the point has been stored. -/
theorem tickChangesTheClock : Obligations.TickChangesTheClock := by
  intro s k h notDone band other startFits incFits
  have ⟨⟨status, _, sample⟩, _⟩ := h
  have store := stored_effect sample
  have run := programSweepFollowsItsPlan k (s.regs.freqCur + s.regs.swInc) (incrementsLeft (advanced s.regs)) (stored s)
    (by rwa [stored_cfg]) (by rwa [stored_cfg]) (by rw [stored_cfg, stored_regs]; exact incFits)
  have coming : ∀ j, verdict (stored s) (0 + j) = verdict s (6 + j) := fun j => by
    rw [verdict, store.upcoming, Nat.zero_add]
    rfl
  have first : verdict (stored s) 0 = verdict s 6 := coming 0
  have gen : generatorAfter (stored s) k = generatorAfter s k := by
    rw [generatorAfter, stored_cfg, stored_regs, stored_gen]
    rfl
  rw [sweepPlan_stored, runPlan_congr coming, first, gen, stored_cfg, stored_regs, stored_gen, store.issuer] at run
  obtain ⟨t, program, recorded, whole, cut, gen, environment, callers, bytes⟩ := run
  have exec := execTick_programs h notDone fun e => other (Option.some.inj (band.symm.trans e))
  rw [program] at exec
  refine ⟨_, exec, congrArg Reply.status ?_, pointStored_of_callersKept (stored_pointStored s) callers, whole, cut,
    recorded_trans store.recorded recorded, gen, environmentKept_trans store.environment environment,
    chipBytesKept_trans store.bytes bytes⟩
  dsimp only
  generalize (runPlan _ _ _).2 = done at whole cut
  cases done
  · rw [cut rfl]
    split <;> exact status
  · rw [whole rfl]
    exact status

/-- Settles O45: the guard of the caller's array, and the two of PROGRAM_SWEEP. -/
theorem tickFaultsWhereTheSourceIsSilent : Obligations.TickFaultsWhereTheSourceIsSilent :=
  ⟨fun _ => execTick_overrun, fun _ => execTick_noClock, fun _ _ h notDone => execTick_unfit h notDone⟩

end Sys2Proof.Machine
end

section
/-! PROOF. The statements of the host commands (43 rules R191 to R200): the reserved codes, the two queries, INIT and RESET,
the validation of MEASURE_IMPEDANCE and its execution. -/

namespace Sys2Proof.Machine

open Sys2Proof.Claims

/-! ### The step (60 rules R252, R257) -/

theorem step_idle {s : State} (h : s.requests = []) : step s = .next s := by
  simp only [step, acceptRequest, h]

theorem step_decoded {s : State} {w : PortWord} {rest : List PortWord} {i : Instr} (h : s.requests = w :: rest)
    (d : decode s.cfg w = .ok i) : step s = exec i { s with requests := rest } := by
  simp only [step, acceptRequest, h, d]

theorem step_rejected {s : State} {w : PortWord} {rest : List PortWord} {e : DecodeError} (h : s.requests = w :: rest)
    (d : decode s.cfg w = .error e) : step s = rejectWord e { s with requests := rest } := by
  simp only [step, acceptRequest, h, d]

theorem decodeHost_reserved {code : BitVec 4} (h : 8 ≤ code.toNat) (ops : HostOperands) :
    decodeHost code ops = .error (.reservedCommand code) := by
  unfold decodeHost
  split
  case h_9 => rfl
  all_goals omega

/-- Settles O4: the code is rejected by the decoder, and its answer only ends the command. -/
theorem reservedCodeIsAnsweredWithError : Obligations.ReservedCodeIsAnsweredWithError := by
  intro s code ops rest asked reserved
  exact ⟨_, step_rejected asked (decodeHost_reserved reserved ops), rfl, rfl, rfl, rfl, rfl, fun _ _ => rfl,
    callersKept_of_eq rfl rfl, ⟨rfl, rfl⟩, rfl, rfl⟩

/-! ### The queries (43 rules R193, R194) -/

/-- Delivering a reply changes nothing else. -/
theorem setReply_nothingChanged (rep : Reply) (i : Issuer) (s : State) : NothingChanged s (setReply rep (issueAs i s)) :=
  ⟨⟨⟨rfl, rfl⟩, rfl, rfl, callersKept_of_eq rfl rfl⟩, rfl, fun _ _ => rfl, rfl, rfl⟩

theorem setReply_recorded (rep : Reply) (i : Issuer) (s : State) : Recorded i [] s (setReply rep (issueAs i s)) :=
  (List.append_nil _).symm

theorem isBusyStatus_eq (v : Status) :
    isBusyStatus v = decide (v ∈ [Status.measureImpedance, .measureTemp, .calibrate]) := by
  cases v <;> rfl

/-- Settles O31: the busy predicate holds in exactly the three states. -/
theorem isBusyAnswers : Obligations.IsBusyAnswers := fun s =>
  ⟨_, rfl, congrArg Reply.flag (isBusyStatus_eq s.regs.status), setReply_nothingChanged _ _ s, setReply_recorded _ _ s⟩

/-- Settles O32: the reply is the register. -/
theorem sweepCountReturnsPoint : Obligations.SweepCountReturnsPoint := fun s =>
  ⟨_, rfl, rfl, setReply_nothingChanged _ _ s, setReply_recorded _ _ s⟩

/-! ### INIT and RESET (43 rules R191, R192) -/

/-- CL_WRITE leaves its byte when it was accepted. -/
theorem clWrite_byteAt (r : BitVec 1) {s : State} (ok : verdict s 0 = true) :
    (clWrite r s).2.chip.byteAt s.cfg.aCtrlLo = some (ctrlLoByte s.cfg r (clkSourceBit s.cfg s.regs.clkSel)) := by
  have byte := frameByteWrite_byteAt s.cfg.aCtrlLo (ctrlLoByte s.cfg r (clkSourceBit s.cfg s.regs.clkSel)) s
  rwa [show (upcoming s 0).ok = true from ok, Bool.true_or, if_pos rfl] at byte

/-- A control-byte command leaves its byte when it was accepted. -/
theorem ccWrite_byteAt (fc : BitVec 4) {s : State} (ok : verdict s 0 = true) :
    (ccWrite fc s).2.chip.byteAt s.cfg.aCtrlHi = some (ctrlHiByte s.cfg fc s.regs.rgVr s.regs.rgPga) := by
  have byte := frameByteWrite_byteAt s.cfg.aCtrlHi (ctrlHiByte s.cfg fc s.regs.rgVr s.regs.rgPga) s
  rwa [show (upcoming s 0).ok = true from ok, Bool.true_or, if_pos rfl] at byte

/-- What CHIP_RESET leaves in the chip when the standby and the last write were accepted (42 rule R173). -/
theorem chipReset_byteAt {s : State} (apart : s.cfg.aCtrlHi ≠ s.cfg.aCtrlLo) (standby : verdict s 0 = true)
    (last : verdict s 2 = true) :
    (chipReset s).chip.byteAt s.cfg.aCtrlHi = some (ctrlHiByte s.cfg s.cfg.fcStandby s.regs.rgVr s.regs.rgPga) ∧
    (chipReset s).chip.byteAt s.cfg.aCtrlLo = some (ctrlLoByte s.cfg 0 (clkSourceBit s.cfg s.regs.clkSel)) := by
  have first := (ccWrite_spec s.cfg.fcStandby s).2
  have second := first.trans (clWrite_spec 1 (ccWrite s.cfg.fcStandby s).2).2
  have third := (clWrite_spec 0 (clWrite 1 (ccWrite s.cfg.fcStandby s).2).2).2
  constructor
  · rw [chipReset, third.bytes _ (by rwa [second.cfg]), (clWrite_spec 1 (ccWrite s.cfg.fcStandby s).2).2.bytes _
      (by rwa [first.cfg]), ccWrite_byteAt _ standby]
  · have ok : verdict (clWrite 1 (ccWrite s.cfg.fcStandby s).2).2 0 = true := by rwa [verdict, second.upcoming]
    have byte := clWrite_byteAt 0 ok
    rwa [second.cfg, second.regs] at byte

/-- INIT up to CHIP_RESET: the reset values, and the generator stopped (43 rule R191). -/
def initialised (s : State) : State := cgStop (setRegs (initRegs s.cfg s.regs) (issueAs .init s))

theorem clkSourceBit_internal (c : Config) : clkSourceBit c c.intIdx = 1 - c.clkExtValue := by
  rw [clkSourceBit_eq, if_neg (not_not_intro rfl)]

/-- Settles O29: INIT is CHIP_RESET with the internal clock and no selectors. -/
theorem initEffect : Obligations.InitEffect := by
  intro s
  have bus := chipReset_busOnly (initialised s)
  have bytes := chipReset_byteAt (s := initialised s)
  have clock : clkSourceBit (initialised s).cfg (initialised s).regs.clkSel = 1 - s.cfg.clkExtValue :=
    clkSourceBit_internal s.cfg
  rw [clock] at bus bytes
  refine ⟨_, rfl, rfl, ⟨congrArg (fun r : Regs => { r with status := .idle }) bus.regs, bus.gen, ?_,
    fun apart ok0 _ ok2 => bytes apart ok0 ok2⟩, ⟨bus.answers, bus.draws⟩, ⟨bus.cfg, bus.requests⟩,
    callersKept_of_eq bus.buf bus.temp, bus.bytes⟩
  have begun : Recorded .init [.cgStop] s (initialised s) := rfl
  exact recorded_trans begun bus.history

/-- Settles O30: RESET is CHIP_RESET with the selectors and the clock as they are. -/
theorem resetEffect : Obligations.ResetEffect := by
  intro s
  have bus := chipReset_busOnly (issueAs .reset s)
  exact ⟨_, rfl, rfl, congrArg (fun r : Regs => { clearSweep r with status := .idle }) bus.regs, bus.gen, bus.history,
    ⟨bus.answers, bus.draws⟩, ⟨bus.cfg, bus.requests⟩, callersKept_of_eq bus.buf bus.temp, bus.bytes⟩

/-! ### MEASURE_IMPEDANCE: validation (43 rule R196, 60 rule R246) -/

section Validation

variable {s : State} {sw : SweepSpec}

theorem validateSweep_uninit (h : s.regs.status = .uninit) : validateSweep s sw = .notInitialised := if_pos h

theorem validateSweep_busy (h : isBusyStatus s.regs.status = true) : validateSweep s sw = .busy := by
  have initialised : s.regs.status ≠ .uninit := fun e => by rw [e] at h; exact nomatch h
  exact (if_neg initialised).trans (if_pos h)

theorem validateSweep_ready (h : Ready s) :
    validateSweep s sw = if sweepArgumentsOk s.cfg sw then .none else .invalidArgument :=
  have ⟨initialised, notBusy⟩ := h
  (if_neg initialised).trans (if_neg (ne_true_of_eq_false notBusy))

theorem validateSweep_admissible (h : Ready s) {k : ClkIdx} (a : OperandsAdmissible s.cfg sw k) :
    validateSweep s sw = .none := by
  rw [validateSweep_ready h, if_pos ((sweepArgumentsOk_iff _ _).2 ⟨k, a⟩)]

theorem validateSweep_inadmissible (h : Ready s) (n : ∀ k, ¬ OperandsAdmissible s.cfg sw k) :
    validateSweep s sw = .invalidArgument := by
  rw [validateSweep_ready h, if_neg fun ok => (not_exists.2 n) ((sweepArgumentsOk_iff _ _).1 ok)]

end Validation

/-- Settles O33: whatever check fails, the command only ends. -/
theorem failedValidationChangesNothing : Obligations.FailedValidationChangesNothing := by
  intro sw rg buffer s
  have ends {cause : Cause} (h : validateSweep s sw = cause) (n : cause ≠ .none) :
      ∃ t, exec (.measureImpedance sw rg buffer) s = .next t ∧ t.reply = .code (resultOf cause) ∧ NothingChanged s t ∧
        Recorded .measureImpedance [.ended (resultOf cause) cause] s t :=
    ⟨_, execMeasureImpedance_refused h n, rfl, endStart_nothingChanged cause _ s, endStart_recorded cause _ s⟩
  exact ⟨fun h => ends (validateSweep_uninit h) nofun, fun h => ends (validateSweep_busy h) nofun,
    fun h n => ends (validateSweep_inadmissible h n) nofun⟩

/-! ### MEASURE_IMPEDANCE: execution (43 rules R197, R198) -/

/-- The end of a command whose events so far are `es`. -/
theorem endStart_recorded_after {i : Issuer} {es : List EventKind} {s u : State} (h : Recorded i es s u)
    (issuer : u.issuer = i) (cause : Cause) : Recorded i (es ++ [.ended (resultOf cause) cause]) s (endStart cause u) :=
  recorded_trans h (by rw [Recorded, endStart_history, issuer]; rfl)

theorem startSweep_of_programSweep {sw : SweepSpec} {rg : RangeSettings} {b : Handle} {s t : State} {whole : Bool}
    (h : programSweep sw.start sw.increments (setRegs (captureOperands sw rg b s.regs) s) = .ok (whole, t)) :
    startSweep sw rg b s = .next (if whole then endStart .none (setRegs (beginSweep t.regs) t)
      else endStart .transportFailure t) := by
  unfold startSweep
  rw [h]
  cases whole <;> rfl

/-- Settles O34: PROGRAM_SWEEP follows its plan (O27) from the state with the operands captured. -/
theorem measureImpedanceStartsOrFails : Obligations.MeasureImpedanceStartsOrFails := by
  intro sw rg buffer k s ready admissible
  have exec := execMeasureImpedance_runs (rg := rg) (b := buffer) (validateSweep_admissible ready admissible)
  obtain ⟨band, -, -, -, startFits, incFits, -⟩ := admissible
  obtain ⟨t, program, recorded, whole, cut, gen, environment, callers, bytes⟩ :=
    programSweepFollowsItsPlan k sw.start sw.increments
      (setRegs (captureOperands sw rg buffer s.regs) (issueAs .measureImpedance s)) band startFits incFits
  have issuer : t.issuer = .measureImpedance := (programSweep_makesOwnFrames program).issuer
  rw [startSweep_of_programSweep (s := issueAs .measureImpedance s) program] at exec
  generalize plan : (runPlan _ _ _).2 = result at exec whole cut
  refine ⟨_, exec, fun done => ?_, fun failed => ?_, ?_⟩
  · obtain rfl : result = true := plan.symm.trans done
    exact ⟨rfl, congrArg beginSweep (whole rfl), endStart_recorded_after (u := setRegs _ t) recorded issuer .none⟩
  · obtain rfl : result = false := plan.symm.trans failed
    exact ⟨rfl, cut rfl, endStart_recorded_after recorded issuer .transportFailure⟩
  · split <;> exact ⟨gen, environment, callers, bytes⟩

end Sys2Proof.Machine
end

section
/-! PROOF. The accumulators (10 rule R28, 43 rules R207, R208, R213): sums of samples do not overflow, and the mean of such
a sum is in the range of a sample. -/

namespace Sys2Proof.Machine

open Sys2Proof.Claims

/-- The signed sum is one that `n` samples can have (10 rule R28). -/
def SumBound (sum : U32) (n : Nat) : Prop := -32768 * (n : Int) ≤ sum.toInt ∧ sum.toInt ≤ 32767 * (n : Int)

theorem sumBound_zero : SumBound 0 0 := ⟨le_rfl, le_rfl⟩

theorem sample_bounds (d : U16) : -32768 ≤ d.toInt ∧ d.toInt ≤ 32767 :=
  have low := BitVec.le_toInt d
  have high := BitVec.toInt_lt (x := d)
  ⟨low, by omega⟩

/-- One more sample, up to the 65535 that AVGCNT can count, does not overflow the sum. -/
theorem addSample_toInt {sum : U32} {n : Nat} (h : SumBound sum n) (small : n < 65535) (d : U16) :
    (addSample sum d).toInt = sum.toInt + d.toInt := by
  obtain ⟨low, high⟩ := h
  have ⟨low', high'⟩ := sample_bounds d
  rw [addSample, sval16, BitVec.toInt_add, BitVec.toInt_ofInt, Int.add_bmod_bmod]
  exact Int.bmod_eq_of_le (by omega) (by omega)

theorem addSample_bound {sum : U32} {n : Nat} (h : SumBound sum n) (small : n < 65535) (d : U16) :
    SumBound (addSample sum d) (n + 1) := by
  have total := addSample_toInt h small d
  obtain ⟨low, high⟩ := h
  have ⟨low', high'⟩ := sample_bounds d
  constructor <;> rw [total] <;> omega

/-- The mean of a sum of `n` samples lies between the extreme samples, and so is not cut by its 16 bits. -/
theorem mean_toInt {sum : U32} {count : U16} (h : SumBound sum count.toNat) (pos : 0 < count.toNat) :
    (mean sum count).toInt = sum.toInt.tdiv count.toNat := by
  obtain ⟨low, high⟩ := h
  have pos' : (0 : Int) < count.toNat := Int.natCast_pos.2 pos
  have least := Int.tdiv_le_tdiv pos' low
  have most := Int.tdiv_le_tdiv pos' high
  rw [Int.mul_tdiv_cancel _ pos'.ne'] at least most
  rw [mean, tdiv, BitVec.toInt_ofInt]
  exact Int.bmod_eq_of_le (by omega) (by omega)

theorem avgCnt_succ {n k : U16} (h : n < k) : (n + 1).toNat = n.toNat + 1 := by
  bv_omega

/-- The samples of one point added one after another (43 rule R207). -/
def accumulateAll (xs : List (U16 × U16)) (r : Regs) : Regs := xs.foldl (fun q x => accumulate x.1 x.2 q) r

/-- What has been accumulated: the sums of the samples and their number, and nothing else of the point. -/
theorem accumulateAll_spec (xs : List (U16 × U16)) (r : Regs) (hR : SumBound r.sumR r.avgCnt.toNat)
    (hI : SumBound r.sumI r.avgCnt.toNat) (small : r.avgCnt.toNat + xs.length ≤ 65535) :
    (accumulateAll xs r).freqCur = r.freqCur ∧
    (accumulateAll xs r).avgCnt.toNat = r.avgCnt.toNat + xs.length ∧
    (accumulateAll xs r).sumR.toInt = r.sumR.toInt + (xs.map fun x => x.1.toInt).sum ∧
    (accumulateAll xs r).sumI.toInt = r.sumI.toInt + (xs.map fun x => x.2.toInt).sum ∧
    SumBound (accumulateAll xs r).sumR (accumulateAll xs r).avgCnt.toNat ∧
    SumBound (accumulateAll xs r).sumI (accumulateAll xs r).avgCnt.toNat := by
  induction xs generalizing r with
  | nil => simp [accumulateAll, hR, hI]
  | cons x xs ih =>
    rw [List.length_cons] at small
    have room : r.avgCnt.toNat < 65535 := by omega
    have count : (accumulate x.1 x.2 r).avgCnt.toNat = r.avgCnt.toNat + 1 := avgCnt_succ (k := 65535#16) room
    obtain ⟨freq, number, sumR, sumI, boundR, boundI⟩ := ih (accumulate x.1 x.2 r)
      (count ▸ addSample_bound hR room x.1) (count ▸ addSample_bound hI room x.2) (by omega)
    refine ⟨freq, ?_, ?_, ?_, boundR, boundI⟩
    · rw [List.length_cons, Nat.add_comm xs.length, ← Nat.add_assoc, ← count]
      exact number
    · rw [List.map_cons, List.sum_cons, ← Int.add_assoc, ← addSample_toInt hR room]
      exact sumR
    · rw [List.map_cons, List.sum_cons, ← Int.add_assoc, ← addSample_toInt hI room]
      exact sumI

/-- Settles O48, by induction over the samples. -/
theorem storedPointIsTheTruncatedMean : Obligations.StoredPointIsTheTruncatedMean := by
  intro xs r sumR0 sumI0 count0 pos small
  have count : r.avgCnt.toNat = 0 := by rw [count0]; rfl
  obtain ⟨freq, number, sumR, sumI, boundR, boundI⟩ := accumulateAll_spec xs r
    (by rw [sumR0, count]; exact sumBound_zero) (by rw [sumI0, count]; exact sumBound_zero) (by omega)
  rw [count, Nat.zero_add] at number
  rw [sumR0, show (0 : U32).toInt = 0 from rfl, Int.zero_add] at sumR
  rw [sumI0, show (0 : U32).toInt = 0 from rfl, Int.zero_add] at sumI
  have meanR := mean_toInt boundR (by omega)
  have meanI := mean_toInt boundI (by omega)
  rw [sumR, number] at meanR
  rw [sumI, number] at meanI
  exact ⟨freq, meanR, meanI⟩

end Sys2Proof.Machine
end

section
/-! PROOF. TICK from its outcome: which case it was and what it left (43 rules R201 to R211), and how much it asks of the bus
and the generator (43 rule R216). -/

namespace Sys2Proof.Machine

open Sys2Proof.Claims

/-! ### How much a plan of PROGRAM_SWEEP asks for -/

/-- Carrying out a plan as far as the verdicts let it does not ask for more than the plan. -/
theorem countP_runPlan_le (p : EventKind → Bool) (verdictFree : ∀ k d a sent received x y,
    p (.frame k d a sent received x) = p (.frame k d a sent received y)) (ok : Nat → Bool) (j : Nat)
    (plan : List EventKind) :
    (runPlan ok j plan).1.countP p ≤ plan.countP p := by
  induction plan generalizing j with
  | nil => exact le_rfl
  | cons e rest ih =>
    cases e with
    | frame k d a sent received x =>
      rw [runPlan]
      split
      · rw [List.countP_cons, List.countP_cons, verdictFree k d a sent received true x]
        exact Nat.add_le_add_right (ih _) _
      · rw [List.countP_cons, List.countP_cons, verdictFree k d a sent received false x]
        exact Nat.add_le_add_right (Nat.zero_le _) _
    | _ =>
      simp only [runPlan, List.countP_cons]
      exact Nat.add_le_add_right (ih _) _

/-- Seven transport operations: two control bytes, the clock-source bit and four two-phase writes (42 rule R175). -/
theorem operationCount_sweepPlan (s : State) (k : ClkIdx) (f : U32) (n : U16) :
    operationCount (sweepPlan s k f n) = 7 := by
  have requests : (clockRequests s k).countP beginsOperation = 0 := by
    unfold clockRequests
    split <;> split <;> rfl
  simp only [operationCount, sweepPlan, List.countP_append, requests]
  rfl

theorem requestCount_sweepPlan (s : State) (k : ClkIdx) (f : U32) (n : U16) : requestCount (sweepPlan s k f n) ≤ 3 := by
  have requests : (clockRequests s k).countP isRequest ≤ 3 := by
    unfold clockRequests
    split <;> split <;> simp [List.countP_cons, isRequest]
  have standby : [controlOf s s.cfg.fcStandby true].countP isRequest = 0 := rfl
  simp only [requestCount, sweepPlan, List.countP_append, standby, Nat.zero_add]
  exact requests

/-- The plan begins with standby: it is issued whatever its verdict, and the plan is whole only if it was accepted. -/
theorem runPlan_sweepPlan (ok : Nat → Bool) (j : Nat) (s : State) (k : ClkIdx) (f : U32) (n : U16) :
    controlOf s s.cfg.fcStandby (ok j) ∈ (runPlan ok j (sweepPlan s k f n)).1 ∧
    ((runPlan ok j (sweepPlan s k f n)).2 = true → ok j = true) := by
  simp only [sweepPlan, List.cons_append, List.nil_append, controlOf, byteWriteOf, frameOf, runPlan]
  cases h : ok j <;> simp

/-! ### The cases -/

/-- What PROGRAM_SWEEP for clock `k`, begun with the registers `r` and the generator of `s`, leaves in both. -/
inductive Programmed (s : State) (k : ClkIdx) (r : Regs) : Regs → ClockGen → Prop
  | whole : Programmed s k r (armed (clockSelected s.cfg k r)) (generatorAfter s k)
  | cutAfterClock : Programmed s k r (clockSelected s.cfg k r) (generatorAfter s k)
  | cutBeforeClock : Programmed s k r r s.gen

/-- The records of the callers' buffers read as before. -/
def SamplesKept (s t : State) : Prop := ∀ ref i, sampleAt t ref i = sampleAt s ref i

/-- The cases of a TICK that goes on from `s` to `t` with the events `es`. -/
inductive TickCase (s t : State) (es : List EventKind) : Prop
  | counts (regs : t.regs = counted s.regs) (gen : t.gen = s.gen) (samples : SamplesKept s t)
      (ops : operationCount es ≤ 3) (reqs : requestCount es = 0)
  | starts (status : s.regs.status = .measureImpedance) (regs : t.regs = { counted s.regs with waitActive := false })
      (gen : t.gen = s.gen) (samples : SamplesKept s t) (events : ∃ ok, es = [controlOf s s.cfg.fcStart ok])
  | delivers (regs : t.regs = { counted s.regs with status := .finishTemp }) (gen : t.gen = s.gen)
      (ops : operationCount es ≤ 3) (reqs : requestCount es = 0)
  | repeats (h : Sampling s) (more : s.regs.avgCnt + 1 < s.regs.swAvg)
      (regs : t.regs = accumulate (wordAnswer s 3) (wordAnswer s 5) (counted s.regs)) (gen : t.gen = s.gen)
      (samples : SamplesKept s t) (events : ∃ ok, es = sampleFrames s ++ [controlOf s s.cfg.fcRepeat ok])
  | finishes (h : CompletesPoint s) (regs : t.regs = { advanced s.regs with status := .finishImpedance })
      (gen : t.gen = s.gen) (point : PointStored s t) (events : es = pointEvents s)
  | increments (h : CompletesPoint s) (band : selClk s.cfg (s.regs.freqCur + s.regs.swInc) = some s.regs.clkSel)
      (regs : t.regs = advanced s.regs) (gen : t.gen = s.gen) (point : PointStored s t)
      (events : ∃ ok, es = pointEvents s ++ [controlOf s s.cfg.fcIncr ok])
  | changesClock (h : CompletesPoint s) {k : ClkIdx} (band : selClk s.cfg (s.regs.freqCur + s.regs.swInc) = some k)
      (incFits : fits24 s.regs.swInc.toNat (rateOf s.cfg k) = true)
      (left : Programmed s k (advanced s.regs) t.regs t.gen) (point : PointStored s t)
      (events : ∃ f n, es = pointEvents s ++ (runPlan (verdict s) 6 (sweepPlan s k f n)).1)

section Cases

variable {s t : State}

theorem UsesBus.gen (h : UsesBus s t) : t.gen = s.gen := by
  obtain ⟨_, _, _, bus⟩ := h
  exact bus.gen

/-- TICK in MeasureTemp: the poll, and what it delivers. -/
theorem execTick_temp_case (status : s.regs.status = .measureTemp) (h : execTick s = .next t) :
    ∃ es, Recorded .tick es s t ∧ TickCase s t es := by
  rw [execTick_temp status] at h
  obtain rfl := Host.Outcome.next.inj h
  obtain ⟨_, es, bus, ops, reqs⟩ := pollTemp_reads (ticked s)
  have tick : tickTemp (countTick (issueAs .tick s)) = tickTemp (ticked s) := rfl
  rw [tick, tickTemp]
  generalize pollTemp (ticked s) = r at bus
  obtain ⟨_ | v, u⟩ := r
  · exact ⟨es, bus.history, .counts bus.regs bus.gen (callersKept_of_eq bus.buf bus.temp).1 (ops.trans (by decide)) reqs⟩
  · have written : Recorded .tick [.tempWrite u.regs.tempRef (decodeTemp v)] u (deliverTemp v u) :=
      congrArg (fun i => u.history ++ [Event.mk i _]) bus.issuer
    have polled : Recorded .tick es s u := bus.history
    have regs := congrArg (fun r : Regs => { r with status := .finishTemp }) bus.regs
    exact ⟨_, recorded_trans polled written, .delivers regs bus.gen (by rw [operationCount_append]; exact ops.trans (by decide)) (by rw [requestCount_append]; exact reqs)⟩

/-- TICK at a completed point, by what follows the store (43 rule R210). -/
theorem execTick_point_case (h : CompletesPoint s) (e : execTick s = .next t) :
    ∃ es, Recorded .tick es s t ∧ TickCase s t es := by
  cases done : sweepDone (upcoming s 1).b0
  · cases band : selClk s.cfg (s.regs.freqCur + s.regs.swInc) with
    | none =>
      exact nomatch e.symm.trans (execTick_noClock h done band)
    | some k =>
      by_cases same : k = s.regs.clkSel
      · subst same
        obtain ⟨u, e', -, regs, point, recorded, -, gen, -⟩ := tickStoresAndIncrements s h done band
        obtain rfl := Host.Outcome.next.inj (e.symm.trans e')
        exact ⟨_, recorded, .increments h band regs gen point ⟨_, rfl⟩⟩
      · cases fits : fits24 (s.regs.freqCur + s.regs.swInc).toNat (rateOf s.cfg k) &&
            fits24 s.regs.swInc.toNat (rateOf s.cfg k)
        · exact nomatch e.symm.trans (execTick_unfit h done band same fits)
        · obtain ⟨startFits, incFits⟩ := Bool.and_eq_true_iff.1 fits
          obtain ⟨u, e', -, point, whole, cut, recorded, gen, -⟩ :=
            tickChangesTheClock s k h done band same startFits incFits
          obtain rfl := Host.Outcome.next.inj (e.symm.trans e')
          refine ⟨_, recorded, .changesClock h band incFits ?_ point ⟨_, _, rfl⟩⟩
          cases standby : verdict s 6 <;> rw [standby] at gen cut
          · have regs := cut (eq_false_of_ne_true fun whole =>
              absurd ((runPlan_sweepPlan _ _ _ _ _ _).2 whole) (ne_true_of_eq_false standby))
            rw [regs, gen]
            exact .cutBeforeClock
          · generalize (runPlan _ _ _).2 = result at whole cut
            cases result
            · rw [cut rfl, gen]
              exact .cutAfterClock
            · rw [whole rfl, gen]
              exact .whole
  · obtain ⟨u, e', -, regs, point, recorded, -, gen, -⟩ := tickFinishesTheSweep s h done
    obtain rfl := Host.Outcome.next.inj (e.symm.trans e')
    exact ⟨_, recorded, .finishes h regs gen point rfl⟩

/-- TICK past the wait, by what the poll gives. -/
theorem execTick_poll_case (status : s.regs.status = .measureImpedance) (noWait : s.regs.waitActive = false)
    (e : execTick s = .next t) : ∃ es, Recorded .tick es s t ∧ TickCase s t es := by
  by_cases sample : SampleAvailable s
  · have sampling : Sampling s := ⟨status, noWait, sample⟩
    by_cases more : s.regs.avgCnt + 1 < s.regs.swAvg
    · obtain ⟨u, e', -, regs, recorded, -, gen, -, callers, -⟩ := tickAccumulatesAndRepeats s sampling more
      obtain rfl := Host.Outcome.next.inj (e.symm.trans e')
      exact ⟨_, recorded, .repeats sampling more regs gen callers.1 ⟨_, rfl⟩⟩
    · by_cases past : s.regs.swNinc < s.regs.point
      · exact nomatch e.symm.trans (execTick_overrun sampling more past)
      · exact execTick_point_case ⟨sampling, more, BitVec.not_lt.1 past⟩ e
  · rw [execTick_counts status noWait sample] at e
    obtain rfl := Host.Outcome.next.inj e
    obtain ⟨_, es, bus, ops, reqs⟩ := polled_reads s
    exact ⟨es, bus.history, .counts bus.regs bus.gen (callersKept_of_eq bus.buf bus.temp).1 ops reqs⟩

/-- Every TICK that goes on is one of the cases. -/
theorem execTick_cases (e : execTick s = .next t) : ∃ es, Recorded .tick es s t ∧ TickCase s t es := by
  cases status : s.regs.status with
  | uninit | idle | finishImpedance | finishTemp | finishCalib =>
    rw [execTick_quiet (by rw [status]; rfl)] at e
    obtain rfl := Host.Outcome.next.inj e
    exact ⟨[], (List.append_nil _).symm, .counts rfl rfl (fun _ _ => rfl) (Nat.zero_le 3) rfl⟩
  | measureImpedance =>
    cases wait : s.regs.waitActive
    · exact execTick_poll_case status wait e
    · obtain ⟨u, e', -, waits, starts⟩ := tickWaitsForTheCapacitor s status wait
      obtain rfl := Host.Outcome.next.inj (e.symm.trans e')
      by_cases past : s.cfg.waitTicks < (s.regs.tickCnt + 1 - s.regs.waitStart).toNat
      · obtain ⟨regs, ⟨recorded, -⟩, -, callers, gen⟩ := starts past
        exact ⟨_, recorded, .starts status regs gen callers.1 ⟨_, rfl⟩⟩
      · obtain ⟨regs, ⟨⟨-, -, gen, callers⟩, -⟩, recorded⟩ := waits (not_lt.1 past)
        exact ⟨[], recorded, .counts regs gen callers.1 (Nat.zero_le 3) rfl⟩
  | measureTemp => exact execTick_temp_case status e
  | calibrate => exact nomatch (execTick_calibrate status).symm.trans e

end Cases

/-! ### The bus work of one TICK (43 rule R216) -/

/-- Three operations read a sample, a control byte is a fourth; PROGRAM_SWEEP makes seven, with its standby among them. -/
theorem TickCase.bounded {s t : State} {es : List EventKind} (h : TickCase s t es) :
    operationCount es ≤ 11 ∧ requestCount es ≤ 3 ∧
      (operationCount es ≤ 4 ∨ ∃ ok, controlOf s s.cfg.fcStandby ok ∈ es) := by
  have few (ops : operationCount es ≤ 4) (reqs : requestCount es = 0) : operationCount es ≤ 11 ∧ requestCount es ≤ 3 ∧
      (operationCount es ≤ 4 ∨ ∃ ok, controlOf s s.cfg.fcStandby ok ∈ es) :=
    ⟨ops.trans (by decide), reqs.trans_le (by decide), .inl ops⟩
  cases h with
  | counts _ _ _ ops reqs => exact few (ops.trans (by decide)) reqs
  | delivers _ _ ops reqs => exact few (ops.trans (by decide)) reqs
  | starts _ _ _ _ events =>
    obtain ⟨ok, rfl⟩ := events
    exact few (show 1 ≤ 4 by decide) rfl
  | repeats _ _ _ _ _ events =>
    obtain ⟨ok, rfl⟩ := events
    exact few (Nat.le_refl 4) rfl
  | finishes _ _ _ _ events =>
    subst events
    exact few (show 3 ≤ 4 by decide) rfl
  | increments _ _ _ _ _ events =>
    obtain ⟨ok, rfl⟩ := events
    exact few (Nat.le_refl 4) rfl
  | @changesClock _ k _ _ _ _ events =>
    obtain ⟨f, n, rfl⟩ := events
    have ops : operationCount (runPlan (verdict s) 6 (sweepPlan s k f n)).1 ≤ operationCount (sweepPlan s k f n) :=
      countP_runPlan_le _ (fun _ _ _ _ _ _ _ => rfl) _ _ _
    have reqs : requestCount (runPlan (verdict s) 6 (sweepPlan s k f n)).1 ≤ requestCount (sweepPlan s k f n) :=
      countP_runPlan_le _ (fun _ _ _ _ _ _ _ => rfl) _ _ _
    have planOps := operationCount_sweepPlan s k f n
    have planReqs := requestCount_sweepPlan s k f n
    have readOps : operationCount (pointEvents s) = 3 := rfl
    have readReqs : requestCount (pointEvents s) = 0 := rfl
    rw [operationCount_append, requestCount_append]
    exact ⟨by omega, by omega, .inr ⟨_, List.mem_append_right _ (runPlan_sweepPlan (verdict s) 6 s k f n).1⟩⟩

/-- Settles O49, by the cases of TICK. -/
theorem tickBusWorkIsBounded : Obligations.TickBusWorkIsBounded := by
  intro s t e
  obtain ⟨es, recorded, h⟩ := execTick_cases e
  exact ⟨es, recorded, h.bounded⟩

end Sys2Proof.Machine
end

section
/-! PROOF. The invariant of the machine (10 rules R22, R27 to R29, 42 rules R163, R176, 43 rules R207 to R212): memory,
control state and clock shadows over every operation, the running sweep and its records over MEASURE_IMPEDANCE and TICK. -/

namespace Sys2Proof.Machine

open Sys2Proof.Claims

/-! ### Memory in canonical form (20 rule R69): every single action keeps it -/

theorem memoryInv_of_chip {s t : State} (h : MemoryInv s) (chip : s.chip.Canonical → t.chip.Canonical)
    (buf : t.buf = s.buf) (temp : t.temp = s.temp) : MemoryInv t := by
  obtain ⟨received, bound, rest⟩ := h
  obtain ⟨received', bound'⟩ := chip ⟨received, bound⟩
  rw [MemoryInv, buf, temp]
  exact ⟨received', bound', rest⟩

theorem Action.memoryInv {s t : State} (h : Action s t) (m : MemoryInv s) : MemoryInv t := by
  cases h with
  | frame bus => exact memoryInv_of_chip m bus.canonical bus.buf bus.temp
  | registers | reply | ended | initialise => exact memoryInv_of_chip m id rfl rfl
  | selectClock => rw [clockPrepared_eq]; exact m
  | sample ref i rec =>
    obtain ⟨received, bound, wf, small, rest⟩ := m
    have ⟨wf', small'⟩ := writeSample_canonical ref i rec wf small
    exact ⟨received, bound, wf', small', rest⟩
  | temperature ref v =>
    obtain ⟨received, bound, wf, small, wfTemp, smallTemp⟩ := m
    exact ⟨received, bound, wf, small, writeTemp_canonical ref v wfTemp smallTemp⟩

theorem Actions.memoryInv {s t : State} (h : Actions s t) (m : MemoryInv s) : MemoryInv t := by
  induction h with
  | refl => exact m
  | tail _ action ih => exact action.memoryInv ih

theorem exec_memoryInv {i : Instr} {s t : State} (h : exec i s = .next t) (m : MemoryInv s) : MemoryInv t :=
  (exec_actions h).memoryInv (s := issueAs (issuerOf i) s) m

/-! ### The control state (10 rule R22), from the changes O53 lists -/

/-- The control states the invariant allows. -/
def ControlAllowed (p : Status × Bool) : Prop :=
  p.1 ≠ .calibrate ∧ p.1 ≠ .finishCalib ∧ (p.2 = true → p.1 = .measureImpedance)

theorem exec_controlInv {i : Instr} {s t : State} (h : exec i s = .next t) (c : ControlInv s.regs) :
    ControlInv t.regs := by
  have before : ControlAllowed (controlState s) := c
  show ControlAllowed (controlState t)
  obtain same | ⟨-, e⟩ | ⟨_, _, _, -, -, e⟩ | ⟨_, -, -, e⟩ | ⟨-, -, e⟩ | ⟨-, -, e⟩ | ⟨-, -, e⟩ | ⟨-, -, e⟩ :=
    controlStateChangesOnlyAsListed i s t c h
  · rwa [same]
  all_goals
    rw [e]
    exact ⟨nofun, nofun, by decide⟩

/-! ### The clock shadows (10 rule R29, 42 rule R163) -/

/-- The clock shadows in the registers agree with each other and with the generator. -/
def ClockAgrees (c : Config) (r : Regs) (g : ClockGen) : Prop :=
  r.cgRun = c.isExternal r.clkSel ∧ (r.cgRun = true → g.running = true ∧ g.psc = r.cgPsc)

theorem clockInv_iff (s : State) : ClockInv s ↔ ClockAgrees s.cfg s.regs s.gen := Iff.rfl

/-- An operation that leaves the generator and the three shadows alone. -/
theorem ClockInv.kept {s t : State} {q : Regs} (h : ClockInv s) (cfg : t.cfg = s.cfg) (regs : t.regs = q)
    (gen : t.gen = s.gen) (sel : q.clkSel = s.regs.clkSel) (run : q.cgRun = s.regs.cgRun)
    (psc : q.cgPsc = s.regs.cgPsc) : ClockInv t := by
  rw [ClockInv, cfg, regs, gen, sel, run, psc]
  exact h

/-- SETCLK brings the shadows and the generator into agreement, whatever they were. -/
theorem clockAgrees_selected (s : State) (k : ClkIdx) (r : Regs) :
    ClockAgrees s.cfg (clockSelected s.cfg k r) (generatorAfter s k) := by
  refine ⟨rfl, fun run => ?_⟩
  have external : s.cfg.isExternal k = true := run
  simp only [generatorAfter, clockSelected, external, if_true, Bool.true_or, and_self]

theorem Programmed.clockAgrees {s : State} {k : ClkIdx} {r q : Regs} {g : ClockGen} (h : Programmed s k r q g)
    (before : ClockAgrees s.cfg r s.gen) : ClockAgrees s.cfg q g := by
  cases h with
  | whole => exact clockAgrees_selected s k (armed r)
  | cutAfterClock => exact clockAgrees_selected s k r
  | cutBeforeClock => exact before

/-! ### The running sweep (10 rules R27, R28, 42 rule R176, 43 rules R207 to R209) -/

section Sweep

variable {c : Config} {r : Regs}

theorem pointFreq_succ (r : Regs) (n : Nat) : pointFreq r (n + 1) = pointFreq r n + r.swInc.toNat := by
  rw [pointFreq, pointFreq, Nat.add_one_mul, Nat.add_assoc]

theorem SweepInv.tick (h : SweepInv c r) (wait : Bool) : SweepInv c { counted r with waitActive := wait } :=
  { h with }

theorem SweepInv.accumulated (h : SweepInv c r) (more : r.avgCnt + 1 < r.swAvg) (re im : U16) :
    SweepInv c (accumulate re im (counted r)) := by
  have count := avgCnt_succ h.count_lt
  have room : r.avgCnt.toNat < 65535 := lt_of_lt_of_le h.count_lt (Nat.le_of_lt_succ r.swAvg.isLt)
  have boundR := addSample_bound h.sumR_bound room re
  have boundI := addSample_bound h.sumI_bound room im
  rw [← count] at boundR boundI
  exact { h with count_lt := more, sumR_bound := boundR, sumI_bound := boundI }

/-- A stored point: the next one begins, under a clock that has a code for the increment and is no faster than the next
frequency's. -/
theorem SweepInv.advance (h : SweepInv c r) (within : r.point ≤ r.swNinc) {k : ClkIdx}
    (fits : fits24 r.swInc.toNat (rateOf c k) = true)
    (band : r.point.toNat < r.swNinc.toNat → ∃ l, selClk c (r.freqCur + r.swInc) = some l ∧ k ≤ l) :
    SweepInv c { advanced r with clkSel := k } := by
  have few := h.increments_le
  have within' : r.point.toNat ≤ r.swNinc.toNat := within
  have next : (r.point + 1).toNat = r.point.toNat + 1 := by bv_omega
  have before {n : Nat} (h : (r.point + 1).toNat ≤ n) : r.point.toNat < n := by omega
  have freq : (r.freqCur + r.swInc).toNat = pointFreq r (r.point + 1).toNat % 2 ^ 32 := by
    rw [next, pointFreq_succ, BitVec.toNat_add, h.freq_eq, Nat.mod_add_mod]
  exact { h with
    point_le := next ▸ Nat.succ_le_succ within'
    freq_eq := freq
    count_lt := h.averages_pos
    sumR_bound := sumBound_zero
    sumI_bound := sumBound_zero
    increment_fits := fits
    band_le := fun le => band (before le) }

/-- The frequency of a point inside the caller's array does not wrap. -/
theorem SweepInv.freqCur_eq (h : SweepInv c r) (within : r.point ≤ r.swNinc) :
    r.freqCur.toNat = pointFreq r r.point.toNat := by
  have below : pointFreq r r.point.toNat ≤ pointFreq r r.swNinc.toNat :=
    Nat.add_le_add_left (Nat.mul_le_mul_right _ within) _
  rw [h.freq_eq, Nat.mod_eq_of_lt (below.trans_lt h.no_wrap)]

/-- What PROGRAM_SWEEP at a stored point leaves keeps the sweep's bounds: under the new clock the increment has a code,
and under the old one, when standby failed, the next band is no lower. -/
theorem SweepInv.programmed {s : State} {q : Regs} {g : ClockGen} (h : SweepInv s.cfg s.regs) (w : s.cfg.WfClocks)
    (within : s.regs.point ≤ s.regs.swNinc) {k : ClkIdx} (band : selClk s.cfg (s.regs.freqCur + s.regs.swInc) = some k)
    (fits : fits24 s.regs.swInc.toNat (rateOf s.cfg k) = true) (left : Programmed s k (advanced s.regs) q g) :
    SweepInv s.cfg q := by
  have selected := h.advance within fits fun _ => ⟨k, band, le_rfl⟩
  cases left with
  | whole => exact { selected with }
  | cutAfterClock => exact { selected with }
  | cutBeforeClock => exact h.advance within h.increment_fits (h.next_band w)

/-- The operands the validation lets through begin a sweep. -/
theorem SweepInv.begun {sw : SweepSpec} {k : ClkIdx} (a : OperandsAdmissible c sw k) (rg : RangeSettings) (b : Handle)
    (r : Regs) : SweepInv c (beginSweep (armed (clockSelected c k (captureOperands sw rg b r)))) := by
  obtain ⟨band, nonzero, few, noWrap, -, fits, settle, averages⟩ := a
  exact
    { increment_pos := Nat.pos_of_ne_zero fun zero => nonzero (BitVec.eq_of_toNat_eq zero)
      increments_le := few
      settle_le := settle
      averages_pos := averages
      no_wrap := by rw [pointFreq, Nat.mul_comm]; exact noWrap
      point_le := Nat.zero_le _
      freq_eq := by
        show sw.start.toNat = (sw.start.toNat + 0 * sw.increment.toNat) % 2 ^ 32
        rw [Nat.zero_mul, Nat.add_zero, Nat.mod_eq_of_lt sw.start.isLt]
      count_lt := averages
      sumR_bound := sumBound_zero
      sumI_bound := sumBound_zero
      increment_fits := fits
      band_le := fun _ => ⟨k, band, le_rfl⟩ }

end Sweep

/-! ### The records of a running sweep (43 rule R212) -/

section Records

variable {s t : State} {q : Regs} (h : RecordsInv s) (regs : t.regs = q) (ref : q.bufRef = s.regs.bufRef)
  (freq : pointFreq q = pointFreq s.regs)

include h regs ref freq

/-- The records stay counted when the count, the handle and the frequencies are the same and nothing was written. -/
theorem RecordsInv.kept (point : q.point = s.regs.point) (samples : SamplesKept s t) : RecordsInv t := by
  intro i below
  rw [regs, point] at below
  obtain ⟨rec, here, freqOk⟩ := h i below
  exact ⟨rec, by rw [regs, ref, samples, here], by rw [regs, freq, freqOk]⟩

/-- A stored point is counted with the others: its record stands at its index with its own frequency. -/
theorem RecordsInv.stored (point : q.point = s.regs.point + 1) (sweep : SweepInv s.cfg s.regs)
    (within : s.regs.point ≤ s.regs.swNinc) (store : PointStored s t) : RecordsInv t := by
  intro i below
  obtain ⟨here, elsewhere, -⟩ := store
  rw [regs, point] at below
  rw [regs, ref, freq]
  by_cases last : i = s.regs.point
  · subst last
    exact ⟨recordOf s, here, sweep.freqCur_eq within⟩
  · have few := sweep.increments_le
    obtain ⟨rec, there, freqOk⟩ := h i (by bv_omega)
    exact ⟨rec, by rw [elsewhere _ _ fun ⟨_, same⟩ => last same, there], freqOk⟩

end Records

/-! ### The operations -/

/-- Without a running sweep, memory, control state and clock shadows are the whole invariant. -/
theorem inv_of_noSweep {s : State} (config : s.cfg.Wf) (memory : MemoryInv s) (control : ControlInv s.regs)
    (clock : ClockInv s) (n : s.regs.status ≠ .measureImpedance) : Inv s :=
  { config, memory, control, clock, sweep := fun h => absurd h n, records := fun h => absurd h n }

/-- An operation that used the bus alone, or nothing. -/
theorem Inv.onlyTheBus {s t : State} (h : Inv s) (bus : OnlyTheBus s t) (memory : MemoryInv t) : Inv t := by
  obtain ⟨⟨cfg, -⟩, regs, gen, samples, -⟩ := bus
  exact
    { config := cfg ▸ h.config
      memory
      control := regs ▸ h.control
      clock := h.clock.kept cfg regs gen rfl rfl rfl
      sweep := fun st => by rw [cfg, regs]; exact h.sweep (regs ▸ st)
      records := fun st => (h.records (regs ▸ st)).kept regs rfl rfl rfl samples }

theorem exec_sequencer_onlyTheBus {i : Instr} {s t : State} (e : exec i s = .next t) (h : issuerOf i = .sequencer) :
    OnlyTheBus s t := by
  obtain ⟨u, rep, e', _, _, _, bus⟩ := exec_sequencer h s
  obtain rfl := Host.Outcome.next.inj (e.symm.trans e')
  exact bus.onlyTheBus rep

theorem ready_notMeasuring {s : State} (h : Ready s) : s.regs.status ≠ .measureImpedance := by
  obtain ⟨-, notBusy⟩ := h
  intro e
  rw [e] at notBusy
  exact nomatch notBusy

/-- MEASURE_TEMPERATURE leaves the generator alone, and a rejected one everything. -/
theorem execMeasureTemperature_cases {dest : Handle} {s t : State} (h : execMeasureTemperature dest s = .next t) :
    OnlyTheBus s t ∨ t.gen = s.gen ∧ t.regs.status ≠ .measureImpedance ∧
      t.regs.clkSel = s.regs.clkSel ∧ t.regs.cgRun = s.regs.cgRun ∧ t.regs.cgPsc = s.regs.cgPsc := by
  by_cases u : s.regs.status = .uninit
  · rw [execMeasureTemperature_uninit u] at h
    obtain rfl := Host.Outcome.next.inj h
    exact .inl (endStart_nothingChanged _ _ s).1
  · cases b : isBusyStatus s.regs.status
    · rw [execMeasureTemperature_ready u b] at h
      obtain rfl := Host.Outcome.next.inj h
      have bus := ccWrite_usesBus s.cfg.fcMtemp (setRegs { s.regs with tempRef := dest } (issueAs .measureTemperature s))
      obtain ⟨-, regs⟩ := temperatureCommand_regs dest s
      refine .inr ?_
      split
      · rw [endStart_regs, setStatus_regs, regs]
        exact ⟨bus.gen, nofun, rfl, rfl, rfl⟩
      · rw [endStart_regs, regs]
        exact ⟨bus.gen, ready_notMeasuring ⟨u, b⟩, rfl, rfl, rfl⟩
    · rw [execMeasureTemperature_busy b] at h
      obtain rfl := Host.Outcome.next.inj h
      exact .inl (endStart_nothingChanged _ _ s).1

/-- MEASURE_IMPEDANCE: rejected, or PROGRAM_SWEEP failed, or the sweep begun. -/
inductive StartCase (s t : State) (sw : SweepSpec) (rg : RangeSettings) (b : Handle) : Prop
  | rejected (same : OnlyTheBus s t)
  | failed {k : ClkIdx} (ready : Ready s) (left : Programmed s k (captureOperands sw rg b s.regs) t.regs t.gen)
      (status : t.regs.status = s.regs.status)
  | begun {k : ClkIdx} (a : OperandsAdmissible s.cfg sw k)
      (regs : t.regs = beginSweep (armed (clockSelected s.cfg k (captureOperands sw rg b s.regs))))
      (gen : t.gen = generatorAfter s k)

theorem execMeasureImpedance_cases {sw : SweepSpec} {rg : RangeSettings} {b : Handle} {s t : State}
    (h : execMeasureImpedance sw rg b s = .next t) : StartCase s t sw rg b := by
  by_cases v : validateSweep s sw = .none
  · obtain ⟨k, a⟩ := validateSweep_none v
    have ready : Ready s := by
      refine ⟨fun u => ?_, eq_false_of_ne_true fun busy => ?_⟩
      · exact nomatch (validateSweep_uninit u).symm.trans v
      · exact nomatch (validateSweep_busy busy).symm.trans v
    obtain ⟨u, h', whole, cut, gen, -⟩ := measureImpedanceStartsOrFails sw rg b k s ready a
    obtain rfl := Host.Outcome.next.inj (h.symm.trans h')
    have ⟨_, standby⟩ := runPlan_sweepPlan (verdict s) 0 (setRegs (captureOperands sw rg b s.regs) s) k sw.start
      sw.increments
    generalize (runPlan _ _ _).2 = result at whole cut standby
    cases result
    · obtain ⟨-, regs, -⟩ := cut rfl
      refine .failed (k := k) ready ?_ ?_
      · cases accepted : verdict s 0 <;> rw [accepted] at gen regs <;> rw [gen, regs]
        · exact .cutBeforeClock
        · exact .cutAfterClock
      · rw [regs]
        split <;> rfl
    · obtain ⟨-, regs, -⟩ := whole rfl
      rw [standby rfl] at gen
      exact .begun a regs gen
  · rw [execMeasureImpedance_refused rfl v] at h
    obtain rfl := Host.Outcome.next.inj h
    exact .rejected (endStart_nothingChanged _ _ s).1

theorem execMeasureImpedance_inv {sw : SweepSpec} {rg : RangeSettings} {b : Handle} {s t : State} (h : Inv s)
    (cfg : t.cfg = s.cfg) (memory : MemoryInv t) (control : ControlInv t.regs) (e : execMeasureImpedance sw rg b s = .next t) : Inv t := by
  have config : t.cfg.Wf := cfg ▸ h.config
  cases execMeasureImpedance_cases e with
  | rejected same => exact h.onlyTheBus same memory
  | failed ready left status =>
    have clock : ClockInv t := by rw [clockInv_iff, cfg]; exact left.clockAgrees h.clock
    exact inv_of_noSweep config memory control clock (status ▸ ready_notMeasuring ready)
  | @begun k a regs gen =>
    exact
      { config, memory, control
        clock := by
          rw [clockInv_iff, cfg, regs, gen]
          exact clockAgrees_selected s k (beginSweep (armed (captureOperands sw rg b s.regs)))
        sweep := fun _ => by rw [cfg, regs]; exact .begun a rg b s.regs
        records := fun _ i below => by rw [regs] at below; exact absurd below (BitVec.not_lt_zero) }

theorem execTick_inv {s t : State} (h : Inv s) (cfg : t.cfg = s.cfg)
    (memory : MemoryInv t) (control : ControlInv t.regs) (e : execTick s = .next t) : Inv t := by
  have config : t.cfg.Wf := cfg ▸ h.config
  obtain ⟨_, -, -, clocks⟩ := h.config
  obtain ⟨es, -, which⟩ := execTick_cases e
  cases which with
  | counts regs gen samples =>
    exact
      { config, memory, control
        clock := h.clock.kept cfg regs gen rfl rfl rfl
        sweep := fun st => by rw [cfg, regs]; rw [regs] at st; exact (h.sweep st).tick s.regs.waitActive
        records := fun st => by
          rw [regs] at st
          exact (h.records st).kept regs rfl rfl rfl samples }
  | starts status regs gen samples =>
    exact
      { config, memory, control
        clock := h.clock.kept cfg regs gen rfl rfl rfl
        sweep := fun _ => by rw [cfg, regs]; exact (h.sweep status).tick false
        records := fun _ => (h.records status).kept regs rfl rfl rfl samples }
  | delivers regs gen =>
    exact inv_of_noSweep config memory control (h.clock.kept cfg regs gen rfl rfl rfl) (by rw [regs]; nofun)
  | repeats sampling more regs gen samples =>
    obtain ⟨status, -⟩ := sampling
    exact
      { config, memory, control
        clock := h.clock.kept cfg regs gen rfl rfl rfl
        sweep := fun _ => by rw [cfg, regs]; exact (h.sweep status).accumulated more _ _
        records := fun _ => (h.records status).kept regs rfl rfl rfl samples }
  | finishes _ regs gen =>
    exact inv_of_noSweep config memory control (h.clock.kept cfg regs gen rfl rfl rfl) (by rw [regs]; nofun)
  | increments point band regs gen store =>
    obtain ⟨⟨status, -⟩, -, within⟩ := point
    have sweep := h.sweep status
    exact
      { config, memory, control
        clock := h.clock.kept cfg regs gen rfl rfl rfl
        sweep := fun _ => by
          rw [cfg, regs]
          exact sweep.advance within sweep.increment_fits fun _ => ⟨_, band, le_rfl⟩
        records := fun _ => (h.records status).stored regs rfl rfl rfl sweep within store }
  | changesClock point band fits left store =>
    obtain ⟨⟨status, -⟩, -, within⟩ := point
    have sweep := h.sweep status
    have place : t.regs.point = s.regs.point + 1 ∧ t.regs.bufRef = s.regs.bufRef ∧
        pointFreq t.regs = pointFreq s.regs := by
      generalize t.regs = q, t.gen = g at left
      cases left <;> exact ⟨rfl, rfl, rfl⟩
    obtain ⟨next, ref, freq⟩ := place
    exact
      { config, memory, control
        clock := by rw [clockInv_iff, cfg]; exact left.clockAgrees h.clock
        sweep := fun _ => by rw [cfg]; exact sweep.programmed clocks within band fits left
        records := fun _ => (h.records status).stored rfl ref freq next sweep within store }

/-- Every operation keeps the invariant. -/
theorem exec_inv {i : Instr} {s t : State} (h : Inv s) (e : exec i s = .next t) : Inv t := by
  obtain ⟨-, cfg⟩ := operationsWriteOnlyTheirRegisters i s t e
  have config : t.cfg.Wf := cfg ▸ h.config
  have memory := exec_memoryInv e h.memory
  have control := exec_controlInv e h.control
  cases i with
  | init =>
    obtain ⟨-, regs⟩ := execInit_regs e
    have clock : ClockInv t := by
      rw [clockInv_iff, cfg, regs]
      exact ⟨(bne_self_eq_false s.cfg.intIdx).symm, fun run => Bool.noConfusion (run : false = true)⟩
    exact inv_of_noSweep config memory control clock (by rw [regs]; nofun)
  | reset =>
    obtain ⟨u, e', -, regs, gen, -⟩ := resetEffect s
    obtain rfl := Host.Outcome.next.inj (e.symm.trans e')
    exact inv_of_noSweep config memory control (h.clock.kept cfg regs gen rfl rfl rfl) (by rw [regs]; nofun)
  | measureImpedance => exact execMeasureImpedance_inv h cfg memory control e
  | measureTemperature =>
    obtain same | ⟨gen, status, sel, run, psc⟩ := execMeasureTemperature_cases e
    · exact h.onlyTheBus same memory
    · exact inv_of_noSweep config memory control (h.clock.kept cfg rfl gen sel run psc) status
  | tick => exact execTick_inv h cfg memory control e
  | isBusy | getSweepCount =>
    obtain rfl := Host.Outcome.next.inj e
    exact h.onlyTheBus (setReply_nothingChanged _ _ s).1 memory
  | calibrate =>
    obtain rfl := Host.Outcome.next.inj e
    exact h.onlyTheBus (endStart_nothingChanged _ _ s).1 memory
  | _ => exact h.onlyTheBus (exec_sequencer_onlyTheBus e rfl) memory

/-- The invariant does not look at the pending requests. -/
theorem Inv.withRequests {s : State} (h : Inv s) (rest : List PortWord) : Inv { s with requests := rest } :=
  { h with }

/-- Settles O52: a step is the idle step, an operation on the state with its request taken off, or the answer to a
rejected word, which only ends the command. -/
theorem stepKeepsTheInvariant : Obligations.StepKeepsTheInvariant := by
  intro s t h e
  cases asked : s.requests with
  | nil =>
    rw [step_idle asked] at e
    exact Host.Outcome.next.inj e ▸ h
  | cons w rest =>
    have taken := h.withRequests rest
    cases d : decode s.cfg w with
    | ok i =>
      rw [step_decoded asked d] at e
      exact exec_inv taken e
    | error r =>
      rw [step_rejected asked d] at e
      cases r with
      | reservedCommand =>
        obtain rfl := Host.Outcome.next.inj e
        exact taken.onlyTheBus (endStart_nothingChanged .reservedCommand .reservedCommand _).1 taken.memory
      | _ => exact nomatch e

/-- Settles O59: only the case of a completed point ends in FinishImpedance, and it counts the point it stored. -/
theorem finishedSweepHoldsEveryPoint : Obligations.FinishedSweepHoldsEveryPoint := by
  intro s t h status e finished
  obtain ⟨es, -, which⟩ := execTick_cases e
  have sweep := h.sweep status
  cases which with
  | finishes point regs _ store =>
    obtain ⟨-, -, within⟩ := point
    have few := sweep.increments_le
    rw [regs]
    refine ⟨?_, rfl, fun last => ?_⟩
    · exact (h.records status).stored regs rfl rfl rfl sweep within store
    · show (s.regs.point + 1).toNat = s.regs.swNinc.toNat + 1
      bv_omega
  | counts regs | starts _ regs | repeats _ _ regs | increments _ _ regs =>
    rw [regs] at finished
    exact nomatch status.symm.trans finished
  | delivers regs =>
    rw [regs] at finished
    exact nomatch finished
  | changesClock _ _ _ left =>
    generalize t.regs = q, t.gen = g at left finished
    cases left <;> exact nomatch status.symm.trans finished

end Sys2Proof.Machine
end

section
/-! PROOF. The capacitor-charge wait as a bounded run (43 rule R204, 70 rule R288): the pending ticks are taken one a
step. -/

namespace Sys2Proof.Machine

open Sys2Proof.Claims

/-! ### Runs -/

/-- A run begins with its first step. -/
theorem run_of_step {M : Host.Core} {s u : M.State} (h : M.step s = .next u) (k : Nat) :
    M.run (k + 1) s = M.run k u := by
  rw [Host.Core.run, h]

/-- A run that goes on went on at its first step. -/
theorem step_of_run {M : Host.Core} {k : Nat} {s t : M.State} (h : M.run (k + 1) s = .next t) :
    ∃ u, M.step s = .next u ∧ M.run k u = .next t := by
  rw [Host.Core.run] at h
  split at h
  case h_1 u first => exact ⟨u, first, h⟩
  all_goals exact nomatch h

/-- A run of one step more: the step comes after the others. -/
theorem run_succ {M : Host.Core} {k : Nat} {s t u : M.State} (h : M.run k s = .next t) (e : M.step t = .next u) :
    M.run (k + 1) s = .next u := by
  induction k generalizing s with
  | zero =>
    obtain rfl := Host.Outcome.next.inj h
    exact run_of_step e 0
  | succ k ih =>
    obtain ⟨v, first, rest⟩ := step_of_run h
    exact (run_of_step first (k + 1)).trans (ih rest)

/-- With no frame in between, the coming answers are the same. -/
theorem upcoming_of_drew_zero {s t : State} (h : Drew 0 s t) (j : Nat) : upcoming t j = upcoming s j := by
  obtain ⟨answers, draws⟩ := h
  rw [upcoming, answers, draws, List.drop_zero, Nat.add_zero, upcoming]

/-! ### Waiting -/

/-- After `k` ticks of the wait, `m` are still asked for, and nothing but `TICKCNT` has moved. -/
structure Waited (k m : Nat) (s t : State) : Prop where
  history : t.history = s.history
  regs : t.regs = { s.regs with tickCnt := s.regs.tickCnt + BitVec.ofNat 32 k }
  cfg : t.cfg = s.cfg
  requests : t.requests = List.replicate m .tickReq
  coming : verdict t 0 = verdict s 0

theorem step_tick {s : State} {m : Nat} (h : s.requests = List.replicate (m + 1) .tickReq) :
    step s = exec .tick { s with requests := List.replicate m .tickReq } :=
  step_decoded (h.trans List.replicate_succ) rfl

section Wait

variable {s : State} (status : s.regs.status = .measureImpedance) (waiting : s.regs.waitActive = true)
  (armedNow : s.regs.waitStart = s.regs.tickCnt) (short : s.cfg.waitTicks < 2 ^ 31)

include armedNow short

/-- The tick after `k` ticks of the wait finds that `k + 1` have passed. -/
theorem Waited.elapsed {k m : Nat} {t : State} (h : Waited k m s t) (le : k ≤ s.cfg.waitTicks) :
    (t.regs.tickCnt + 1 - t.regs.waitStart).toNat = k + 1 := by
  rw [h.regs, armedNow]
  have small : k < 2 ^ 31 := le.trans_lt short
  bv_omega

include status waiting

theorem Waited.step_waits {k m : Nat} {t : State} (h : Waited k (m + 1) s t) (before : k < s.cfg.waitTicks) :
    ∃ u, step t = .next u ∧ Waited (k + 1) m s u := by
  have passed := h.elapsed armedNow short before.le
  obtain ⟨u, e, -, waits, -⟩ := tickWaitsForTheCapacitor { t with requests := List.replicate m .tickReq }
    (by rw [h.regs]; exact status) (by rw [h.regs]; exact waiting)
  obtain ⟨regs, ⟨⟨⟨cfg, requests⟩, -⟩, -, -, drew⟩, recorded⟩ := waits (by
    rw [h.cfg]
    exact passed.trans_le before)
  refine ⟨u, (step_tick h.requests).trans e, ?_⟩
  exact
    { history := by rw [Recorded, List.map_nil, List.append_nil] at recorded; exact recorded.trans h.history
      regs := by
        rw [regs, h.regs, counted, BitVec.ofNat_add, ← BitVec.add_assoc]
        rfl
      cfg := cfg.trans h.cfg
      requests
      coming := (congrArg Answer.ok (upcoming_of_drew_zero drew 0)).trans h.coming }

theorem run_waits {m : Nat} (asked : s.requests = List.replicate m .tickReq) (k : Nat)
    (le : k ≤ s.cfg.waitTicks) (le' : k ≤ m) : ∃ t, Sys2Proof.core.run k s = .next t ∧ Waited k (m - k) s t := by
  induction k with
  | zero => exact ⟨s, rfl, rfl, by rw [BitVec.add_zero], rfl, asked, rfl⟩
  | succ k ih =>
    obtain ⟨t, run, waited⟩ := ih (Nat.le_of_succ_le le) (Nat.le_of_succ_le le')
    rw [show m - k = m - (k + 1) + 1 by omega] at waited
    obtain ⟨u, e, waited'⟩ := waited.step_waits status waiting armedNow short le
    exact ⟨u, run_succ run e, waited'⟩

end Wait

/-- Settles O60: `WAIT_TICKS` ticks only count, and the next one finds one more passed than that. -/
theorem startSweepComesAfterTheWait : Obligations.StartSweepComesAfterTheWait := by
  intro s status waiting armedNow short asked
  obtain ⟨t, run, waited⟩ := run_waits status waiting armedNow short asked s.cfg.waitTicks le_rfl (Nat.le_succ _)
  refine ⟨⟨t, run, waited.history, waited.regs⟩, ?_⟩
  have passed := waited.elapsed armedNow short le_rfl
  have requests := waited.requests
  rw [Nat.add_sub_cancel_left] at requests
  obtain ⟨u, e, -, -, starts⟩ := tickWaitsForTheCapacitor { t with requests := List.replicate 0 .tickReq }
    (by rw [waited.regs]; exact status) (by rw [waited.regs]; exact waiting)
  obtain ⟨regs, ⟨recorded, -⟩, -⟩ := starts (by
    rw [waited.cfg]
    exact passed ▸ Nat.lt_succ_self _)
  refine ⟨u, run_succ run ((step_tick requests).trans e), ?_, ?_⟩
  · rw [recorded, waited.history]
    have tag : byteWriteOf { t with requests := List.replicate 0 .tickReq } t.cfg.aCtrlHi
        (ctrlHiByte t.cfg t.cfg.fcStart t.regs.rgVr t.regs.rgPga) (verdict t 0) =
        controlOf s s.cfg.fcStart (verdict s 0) := by
      rw [waited.coming, waited.regs, byteWriteOf, frameOf, waited.cfg]
      rfl
    exact congrArg (fun e => s.history ++ [Event.mk .tick e]) tag
  · rw [regs, waited.regs, counted, BitVec.ofNat_add, ← BitVec.add_assoc]
    rfl

end Sys2Proof.Machine
end

section
/-! PROOF. The temperature path (44 rules R231 to R233): DECODE_TEMP as signed arithmetic, the outcomes of
MEASURE_TEMPERATURE, and the poll and delivery of a TICK in MeasureTemp. -/

namespace Sys2Proof.Machine

open Sys2Proof.Claims

/-! ### DECODE_TEMP (44 rule R233) -/

/-- Settles O47: widening a 14-bit number keeps its signed value, which bit 13 decides. -/
theorem temperatureDecoding : Obligations.TemperatureDecoding := by
  intro t
  have low : (t.extractLsb' 0 14).toNat = t.toNat % 2 ^ 14 := by
    rw [BitVec.extractLsb'_toNat, Nat.shiftRight_zero]
  rw [decodeTemp, BitVec.toInt_signExtend_of_le (by decide), BitVec.toInt_eq_toNat_cond, low]
  split <;> split <;> omega

/-! ### MEASURE_TEMPERATURE (44 rule R231) -/

/-- The command of MEASURE_TEMPERATURE is one control-byte frame from the state with the handle captured. -/
theorem temperatureCommand_spec (dest : Handle) (s : State) : (temperatureCommand dest s).1 = verdict s 0 ∧
    BusOnly (fun a => a = s.cfg.aCtrlHi) 1 [controlOf s s.cfg.fcMtemp (verdict s 0)]
      (setRegs { s.regs with tempRef := dest } (issueAs .measureTemperature s)) (temperatureCommand dest s).2 :=
  ccWrite_spec _ _

/-- Past the validation the verdict on the command decides how MEASURE_TEMPERATURE ends. -/
theorem execMeasureTemperature_of_ready {s : State} (h : Ready s) (dest : Handle) : execMeasureTemperature dest s =
    .next (if verdict s 0 then endStart .none (setStatus .measureTemp (temperatureCommand dest s).2)
      else endStart .transportFailure (temperatureCommand dest s).2) := by
  obtain ⟨initialised, notBusy⟩ := h
  rw [execMeasureTemperature_ready initialised notBusy, (temperatureCommand_spec dest s).1]

theorem not_ready_of_uninit {s : State} (h : s.regs.status = .uninit) : ¬ Ready s :=
  fun ⟨initialised, _⟩ => initialised h

theorem not_ready_of_busy {s : State} (h : isBusyStatus s.regs.status = true) : ¬ Ready s :=
  fun ⟨_, notBusy⟩ => ne_true_of_eq_false notBusy h

theorem not_busy_of_uninit {s : State} (h : s.regs.status = .uninit) : isBusyStatus s.regs.status ≠ true := by
  rw [h]
  nofun

/-- Settles O36, by the outcome of the validation and, past it, by the verdict on the one command. -/
theorem measureTemperatureOutcome : Obligations.MeasureTemperatureOutcome := by
  intro dest s
  by_cases uninit : s.regs.status = .uninit
  · exact ⟨_, execMeasureTemperature_uninit uninit,
      fun _ => ⟨rfl, endStart_nothingChanged _ _ s, endStart_recorded _ _ s⟩,
      fun busy => absurd busy (not_busy_of_uninit uninit), fun ready => absurd ready (not_ready_of_uninit uninit)⟩
  · cases busy : isBusyStatus s.regs.status
    · obtain ⟨-, bus⟩ := temperatureCommand_spec dest s
      have callers := callersKept_of_eq bus.buf bus.temp
      have exec := execMeasureTemperature_of_ready ⟨uninit, busy⟩ dest
      refine ⟨_, exec, fun h => absurd h uninit, nofun, fun _ => ?_⟩
      cases ok : verdict s 0 <;> rw [ok] at bus
      · exact ⟨⟨bus.cfg, bus.requests⟩, callers, bus.gen, ⟨bus.answers, bus.draws⟩, bus.bytes, nofun, fun _ =>
          ⟨rfl, bus.regs, endStart_recorded_after bus.history bus.issuer .transportFailure⟩⟩
      · have regs := congrArg (fun r : Regs => { r with status := .measureTemp }) bus.regs
        have recorded : Recorded .measureTemperature [controlOf s s.cfg.fcMtemp true] s
            (setStatus .measureTemp (temperatureCommand dest s).2) := bus.history
        exact ⟨⟨bus.cfg, bus.requests⟩, callers, bus.gen, ⟨bus.answers, bus.draws⟩, bus.bytes, fun _ =>
          ⟨rfl, regs, endStart_recorded_after recorded bus.issuer .none⟩, nofun⟩
    · exact ⟨_, execMeasureTemperature_busy busy, fun h => absurd h uninit,
        fun _ => ⟨rfl, endStart_nothingChanged _ _ s, endStart_recorded _ _ s⟩,
        fun ready => absurd ready (not_ready_of_busy busy)⟩

/-! ### The poll for a temperature (44 rule R232) -/

/-- The four frames that read a temperature. -/
def tempFrames (s : State) : List EventKind :=
  [pointerSetOf s s.cfg.aStatus true, byteReceiveOf s s.cfg.aStatus [(upcoming s 1).b0] true,
   pointerSetOf s s.cfg.aTemp true, blockReadOf s s.cfg.aTemp [(upcoming s 3).b0, (upcoming s 3).b1] true]

/-- With a temperature there, the poll gives it over four frames. -/
theorem pollTemp_available {s : State} (h : TempAvailable s) :
    ∃ u, pollTemp s = (some (wordAnswer s 3), u) ∧ BusOnly (fun _ => False) 4 (tempFrames s) s u := by
  obtain ⟨ok, valid⟩ := h
  obtain ⟨u1, status, bus1⟩ := read8_whole s.cfg.aStatus (ok 0 (by decide)) (ok 1 (by decide))
  have later (j : Nat) (small : 2 + j < 4) : verdict u1 j = true := by
    rw [verdict, bus1.upcoming]
    exact ok _ small
  obtain ⟨u2, temp, bus2⟩ := read16_whole s.cfg.aTemp (later 0 (by decide)) (later 1 (by decide))
  have bus := (bus1.trans bus2).weaken (Q := fun _ => False) (by simp)
  simp only [pointerSetOf, blockReadOf, frameOf, bus1.cfg, bus1.upcoming] at bus
  refine ⟨u2, ?_, bus⟩
  simp only [pollTemp, status, valid, if_true, bus1.cfg, temp, wordAnswer, bus1.upcoming]

/-- A poll that gives a temperature had one to give. -/
theorem tempAvailable_of_pollTemp {s : State} {v : U16} (h : (pollTemp s).1 = some v) : TempAvailable s := by
  unfold pollTemp at h
  split at h
  · exact nomatch h
  · next st s1 status =>
    split_ifs at h with valid
    obtain ⟨ok0, ok1, rfl, coming⟩ := read8_some status
    obtain ⟨ok2, ok3, -⟩ := read16_some (Prod.ext h rfl)
    rw [verdict, coming] at ok2 ok3
    refine ⟨fun j hj => ?_, valid⟩
    interval_cases j <;> assumption

theorem pollTemp_unavailable {s : State} (h : ¬ TempAvailable s) : (pollTemp s).1 = none :=
  Option.eq_none_iff_forall_ne_some.2 fun _ e => h (tempAvailable_of_pollTemp e)

/-! ### The delivery (44 rule R232) -/

@[simp] theorem deliverTemp_regs (v : U16) (s : State) :
    (deliverTemp v s).regs = { s.regs with status := .finishTemp } := rfl

theorem deliverTemp_tempAt (v : U16) (s : State) (ref : Handle) :
    tempAt (deliverTemp v s) ref = if ref = s.regs.tempRef then some (decodeTemp v) else tempAt s ref :=
  tempAt_writeTemp s.regs.tempRef (decodeTemp v) s ref

theorem deliverTemp_effect (v : U16) (s : State) :
    Effect (fun _ => False) 0 [.tempWrite s.regs.tempRef (decodeTemp v)] s (deliverTemp v s) where
  environment := ⟨rfl, rfl⟩
  issuer := rfl
  drew := ⟨rfl, rfl⟩
  recorded := rfl
  upcoming j := by rw [Nat.zero_add]; rfl
  bytes _ _ := rfl

/-! ### TICK in MeasureTemp, by what the poll can give -/

/-- TICK in MeasureTemp once it has polled. -/
def tempPolled (s : State) : State := (pollTemp (ticked s)).2

section Tick

variable {s : State}

@[simp] theorem tempPolled_regs (s : State) : (tempPolled s).regs = counted s.regs := (pollTemp_usesBus (ticked s)).regs

theorem tempPolled_effect (h : TempAvailable s) :
    Effect (fun _ => False) 4 (tempFrames s) (ticked s) (tempPolled s) := by
  obtain ⟨u, poll, bus⟩ := pollTemp_available (s := ticked s) h
  rw [tempPolled, poll]
  exact bus.effect

theorem execTick_temp_unavailable (status : s.regs.status = .measureTemp) (h : ¬ TempAvailable s) :
    execTick s = .next (returnStatus (tempPolled s)) := by
  have nothing : pollTemp (ticked s) = (none, tempPolled s) := Prod.ext (pollTemp_unavailable (s := ticked s) h) rfl
  rw [execTick_temp status, ← ticked, tickTemp, nothing]

theorem execTick_temp_available (status : s.regs.status = .measureTemp) (h : TempAvailable s) :
    execTick s = .next (returnStatus (deliverTemp (wordAnswer s 3) (tempPolled s))) := by
  obtain ⟨u, poll, -⟩ := pollTemp_available (s := ticked s) h
  rw [execTick_temp status, ← ticked, tickTemp, tempPolled, poll]
  rfl

end Tick

/-- Settles O46: the poll uses the bus for reading alone, and what it gives is delivered by one write to the cell. -/
theorem tickDeliversTheTemperature : Obligations.TickDeliversTheTemperature := by
  intro s status
  obtain ⟨_, _, bus, -⟩ := pollTemp_reads (ticked s)
  have ⟨samples, temps⟩ : CallersKept s (tempPolled s) := callersKept_of_eq bus.buf bus.temp
  by_cases available : TempAvailable s
  · have effect := (tempPolled_effect available).trans (deliverTemp_effect (wordAnswer s 3) (tempPolled s))
    have cell (ref : Handle) := deliverTemp_tempAt (wordAnswer s 3) (tempPolled s) ref
    rw [tempPolled_regs] at effect cell
    refine ⟨_, execTick_temp_available status available, bus.gen, effect.environment, effect.bytes, samples,
      fun ref other => ?_, fun h => absurd available h, fun _ => ⟨rfl, ?_, ?_, effect.recorded⟩⟩
    · exact (cell ref).trans ((if_neg other).trans (temps ref))
    · rw [returnStatus_regs, deliverTemp_regs, tempPolled_regs]
    · exact (cell s.regs.tempRef).trans (if_pos rfl)
  · refine ⟨_, execTick_temp_unavailable status available, bus.gen, ⟨bus.cfg, bus.requests⟩, bus.bytes, samples,
      fun ref _ => temps ref, fun _ => ⟨?_, tempPolled_regs s, temps _⟩, fun h => absurd h available⟩
    rw [returnStatus_reply, tempPolled_regs]
    exact congrArg Reply.status status

end Sys2Proof.Machine
end

section
/-! PROOF. The step as a serialisation of the requests (60 rules R252, R257): every operation commutes with replacing the
pending requests, so what waits behind a command neither reaches into it nor is touched by it. -/

namespace Sys2Proof.Machine

open Sys2Proof.Claims
open Function (Semiconj)

/-- Settles O6, by the lemmas on the decoded and on the idle step. -/
theorem stepRunsTheDecodedOperation : Obligations.StepRunsTheDecodedOperation :=
  ⟨fun _ _ _ _ => step_decoded, fun _ => step_idle⟩

/-- `s` with other requests pending. -/
def asking (rest : List PortWord) (s : State) : State := { s with requests := rest }

/-- An operation's answer, and the state beside it with other requests pending. -/
abbrev answerAsking {α : Type} (rest : List PortWord) : α × State → α × State := Prod.map id (asking rest)

@[simp] theorem asking_cfg (rest : List PortWord) (s : State) : (asking rest s).cfg = s.cfg := rfl

variable {rest : List PortWord}

/-! ### The bus -/

/-! An operation that neither looks at the pending requests nor writes them carries `asking` along. -/

theorem andThen_asking {f : State → Bool × State} (h : Semiconj f (asking rest) (answerAsking rest)) :
    Semiconj (andThen f) (answerAsking rest) (answerAsking rest)
  | (false, _) => rfl
  | (true, t) => h t

theorem andThenRead_asking {α : Type} {f : State → Option α × State}
    (h : Semiconj f (asking rest) (answerAsking rest)) :
    Semiconj (andThenRead f) (answerAsking rest) (answerAsking rest)
  | (false, _) => rfl
  | (true, t) => h t

theorem setAddr_asking (a : Byte) : Semiconj (setAddr a) (asking rest) (answerAsking rest) := fun _ => rfl

theorem write8_asking (a v : Byte) : Semiconj (write8 a v) (asking rest) (answerAsking rest) := fun _ => rfl

theorem frameBlockWrite_asking (a : Byte) (bs : List Byte) :
    Semiconj (frameBlockWrite a bs) (asking rest) (answerAsking rest) := fun _ => rfl

theorem write16_asking (a : Byte) (v : U16) : Semiconj (write16 a v) (asking rest) (answerAsking rest) :=
  (setAddr_asking a).trans (andThen_asking (frameBlockWrite_asking a (bytes16 v)))

theorem write24_asking (a : Byte) (v : U24) : Semiconj (write24 a v) (asking rest) (answerAsking rest) :=
  (setAddr_asking a).trans (andThen_asking (frameBlockWrite_asking a (bytes24 v)))

theorem read8_asking (a : Byte) : Semiconj (read8 a) (asking rest) (answerAsking rest) :=
  have receive : Semiconj (frameByteReceive a) (asking rest) (answerAsking rest) := fun _ => rfl
  (setAddr_asking a).trans (andThenRead_asking receive)

theorem read16_asking (a : Byte) : Semiconj (read16 a) (asking rest) (answerAsking rest) :=
  have receive : Semiconj (frameBlockRead a) (asking rest) (answerAsking rest) := fun _ => rfl
  (setAddr_asking a).trans (andThenRead_asking receive)

theorem ccWrite_asking (fc : BitVec 4) : Semiconj (ccWrite fc) (asking rest) (answerAsking rest) := fun _ => rfl

theorem clWrite_asking (r : BitVec 1) : Semiconj (clWrite r) (asking rest) (answerAsking rest) := fun _ => rfl

theorem chipReset_asking : Semiconj chipReset (asking rest) (asking rest) := fun _ => rfl

/-! ### SETCLK and PROGRAM_SWEEP (42) -/

theorem stopIfRunning_asking : Semiconj stopIfRunning (asking rest) (asking rest) := by
  intro s
  unfold stopIfRunning
  rw [apply_ite (asking rest)]
  rfl

theorem startExternal_asking (k : ClkIdx) : Semiconj (startExternal k) (asking rest) (asking rest) := by
  intro s
  unfold startExternal
  rw [apply_ite (asking rest)]
  rfl

theorem setClk_asking (k : ClkIdx) : Semiconj (setClk k) (asking rest) (answerAsking rest) :=
  have select : Semiconj (selectClock k) (asking rest) (asking rest) := fun _ => rfl
  ((stopIfRunning_asking.trans (startExternal_asking k)).trans select).trans (clWrite_asking 0)

/-- Only the parameters and the registers of the state it began in matter, and `s` stands for those. -/
theorem programWrites_asking (s : State) (k : ClkIdx) (f : U32) (n : U16) :
    Semiconj (programWrites s k f n) (answerAsking rest) (answerAsking rest) :=
  ((((andThen_asking (write24_asking _ _)).trans (andThen_asking (write24_asking _ _))).trans
    (andThen_asking (write16_asking _ _))).trans (andThen_asking (write16_asking _ _))).trans
    (andThen_asking (ccWrite_asking _))

theorem programSteps_asking (k : ClkIdx) (f : U32) (n : U16) :
    Semiconj (programSteps k f n) (asking rest) (answerAsking rest) := fun s =>
  have arm : Semiconj (fun t => (true, armWait t)) (asking rest) (answerAsking rest) := fun _ => rfl
  (((andThen_asking (setClk_asking k)).trans (programWrites_asking s k f n)).trans (andThen_asking arm))
    (ccWrite s.cfg.fcStandby s)

theorem programSweep_asking (f : U32) (n : U16) :
    Semiconj (programSweep f n) (asking rest) (Except.map (answerAsking rest)) := by
  intro s
  cases e : selClk s.cfg f with
  | none => rw [programSweep_none e, programSweep_none (s := asking rest s) e]; rfl
  | some k =>
    cases g : fits24 f.toNat (rateOf s.cfg k) && fits24 s.regs.swInc.toNat (rateOf s.cfg k)
    · rw [programSweep_unfit e g, programSweep_unfit (s := asking rest s) e g]; rfl
    · rw [programSweep_ok e g, programSweep_ok (s := asking rest s) e g, programSteps_asking k f n s]; rfl

/-! ### TICK (43 rules R201 to R211, 44 rule R232) -/

theorem pollSample_asking : Semiconj pollSample (asking rest) (answerAsking rest) := by
  intro s
  unfold pollSample
  rw [asking_cfg, read8_asking]
  obtain ⟨_ | st, s1⟩ := read8 s.cfg.aStatus s
  · rfl
  · dsimp only [answerAsking, Prod.map, id]
    split
    · rw [asking_cfg, read16_asking]
      obtain ⟨_ | re, s2⟩ := read16 s1.cfg.aReal s1
      · rfl
      · dsimp only [answerAsking, Prod.map, id]
        rw [asking_cfg, read16_asking]
        obtain ⟨_ | im, s3⟩ := read16 s2.cfg.aImag s2 <;> rfl
    · rfl

theorem pollTemp_asking : Semiconj pollTemp (asking rest) (answerAsking rest) := by
  intro s
  unfold pollTemp
  rw [asking_cfg, read8_asking]
  obtain ⟨_ | st, s1⟩ := read8 s.cfg.aStatus s
  · rfl
  · dsimp only [answerAsking, Prod.map, id]
    split
    · exact read16_asking s1.cfg.aTemp s1
    · rfl

theorem tickTemp_asking : Semiconj tickTemp (asking rest) (asking rest) := by
  intro s
  unfold tickTemp
  rw [pollTemp_asking]
  obtain ⟨_ | t, s1⟩ := pollTemp s <;> rfl

theorem tickWait_asking : Semiconj tickWait (asking rest) (asking rest) := by
  intro s
  unfold tickWait
  rw [apply_ite (asking rest)]
  rfl

theorem nextPoint_asking (st : Byte) : Semiconj (nextPoint st) (asking rest) (Except.map (asking rest)) := by
  intro s
  cases d : sweepDone st
  · by_cases k : selClk s.cfg s.regs.freqCur = some s.regs.clkSel
    · rw [nextPoint_increment d k, nextPoint_increment (s := asking rest s) d k]; rfl
    · rw [nextPoint_change d k, nextPoint_change (s := asking rest s) d k, programSweep_asking]
      change ((programSweep s.regs.freqCur (incrementsLeft s.regs) s).map _).map _ = _
      cases programSweep s.regs.freqCur (incrementsLeft s.regs) s <;> rfl
  · rw [nextPoint_done d, nextPoint_done d]; rfl

theorem finishPoint_asking (st : Byte) : Semiconj (finishPoint st) (asking rest) (Except.map (asking rest)) := by
  intro s
  by_cases past : s.regs.swNinc < s.regs.point
  · rw [finishPoint_overrun past, finishPoint_overrun (s := asking rest s) past]; rfl
  · rw [finishPoint_store past, finishPoint_store (s := asking rest s) past, ← nextPoint_asking]; rfl

theorem takeSample_asking (st : Byte) (re im : U16) :
    Semiconj (takeSample st re im) (asking rest) (Except.map (asking rest)) := by
  intro s
  by_cases more : s.regs.avgCnt + 1 < s.regs.swAvg
  · rw [takeSample_repeat more, takeSample_repeat (s := asking rest s) more]; rfl
  · rw [takeSample_complete more, takeSample_complete (s := asking rest s) more, ← finishPoint_asking]; rfl

theorem tickPoll_asking : Semiconj tickPoll (asking rest) (Except.map (asking rest)) := by
  intro s
  unfold tickPoll
  rw [pollSample_asking]
  obtain ⟨_ | ⟨st, re, im⟩, s1⟩ := pollSample s
  · rfl
  · exact takeSample_asking st re im s1

theorem endTick_asking : Semiconj endTick (Except.map (asking rest)) (withRequests rest)
  | .ok _ => rfl
  | .error _ => rfl

theorem execTick_asking : Semiconj execTick (asking rest) (withRequests rest) := by
  intro s
  cases status : s.regs.status with
  | uninit | idle | finishImpedance | finishTemp | finishCalib =>
    have quiet : isBusyStatus s.regs.status = false := by rw [status]; rfl
    rw [execTick_quiet quiet, execTick_quiet (s := asking rest s) quiet]; rfl
  | measureImpedance =>
    cases wait : s.regs.waitActive
    · rw [execTick_poll status wait, execTick_poll (s := asking rest s) status wait]
      exact (tickPoll_asking.trans endTick_asking) (countTick (issueAs .tick s))
    · rw [execTick_wait status wait, execTick_wait (s := asking rest s) status wait]
      exact congrArg (fun t => Host.Outcome.next (returnStatus t)) (tickWait_asking (countTick (issueAs .tick s)))
  | measureTemp =>
    rw [execTick_temp status, execTick_temp (s := asking rest s) status]
    exact congrArg (fun t => Host.Outcome.next (returnStatus t)) (tickTemp_asking (countTick (issueAs .tick s)))
  | calibrate => rw [execTick_calibrate status, execTick_calibrate (s := asking rest s) status]; rfl

/-! ### The start operations (43 rules R195 to R198, 44 rule R231) -/

theorem startSweep_asking (sw : SweepSpec) (rg : RangeSettings) (b : Handle) :
    Semiconj (startSweep sw rg b) (asking rest) (withRequests rest) := by
  intro s
  have program := programSweep_asking (rest := rest) sw.start sw.increments
    (setRegs (captureOperands sw rg b s.regs) s)
  change programSweep _ _ (setRegs (captureOperands sw rg b (asking rest s).regs) (asking rest s)) = _ at program
  unfold startSweep
  rw [program]
  obtain f | ⟨_ | _, t⟩ := programSweep sw.start sw.increments (setRegs (captureOperands sw rg b s.regs) s) <;> rfl

theorem execMeasureImpedance_asking (sw : SweepSpec) (rg : RangeSettings) (b : Handle) :
    Semiconj (execMeasureImpedance sw rg b) (asking rest) (withRequests rest) := by
  intro s
  by_cases valid : validateSweep s sw = .none
  · rw [execMeasureImpedance_runs valid, execMeasureImpedance_runs (s := asking rest s) valid]
    exact startSweep_asking sw rg b (issueAs .measureImpedance s)
  · rw [execMeasureImpedance_refused rfl valid, execMeasureImpedance_refused (s := asking rest s) rfl valid]
    rfl

theorem temperatureCommand_asking (dest : Handle) :
    Semiconj (temperatureCommand dest) (asking rest) (answerAsking rest) := fun _ => rfl

theorem execMeasureTemperature_asking (dest : Handle) :
    Semiconj (execMeasureTemperature dest) (asking rest) (withRequests rest) := by
  intro s
  by_cases uninit : s.regs.status = .uninit
  · rw [execMeasureTemperature_uninit uninit, execMeasureTemperature_uninit (s := asking rest s) uninit]; rfl
  · cases busy : isBusyStatus s.regs.status
    · rw [execMeasureTemperature_ready uninit busy, execMeasureTemperature_ready (s := asking rest s) uninit busy,
        temperatureCommand_asking]
      obtain ⟨_ | _, t⟩ := temperatureCommand dest s <;> rfl
    · rw [execMeasureTemperature_busy busy, execMeasureTemperature_busy (s := asking rest s) busy]; rfl

/-! ### Every operation -/

/-- A bus operation on the port of the sequencer, its answer delivered as the reply (log 3). -/
theorem replied_asking {α : Type} (reply : α → Reply) {f : State → α × State}
    (h : Semiconj f (asking rest) (answerAsking rest)) :
    Semiconj (fun s => .next (setReply (reply (f (issueAs .sequencer s)).1) (f (issueAs .sequencer s)).2))
      (asking rest) (withRequests rest) := fun s =>
  congrArg (fun r : α × State => Host.Outcome.next (setReply (reply r.1) r.2)) (h (issueAs .sequencer s))

/-- No operation looks at the pending requests or writes them (60 rule R252). -/
theorem exec_asking (i : Instr) : Semiconj (exec i) (asking rest) (withRequests rest) := by
  cases i with
  | init | reset | isBusy | getSweepCount | calibrate => exact fun _ => rfl
  | measureImpedance sw rg b => exact execMeasureImpedance_asking sw rg b
  | measureTemperature dest => exact execMeasureTemperature_asking dest
  | tick => exact execTick_asking
  | setAddr a => exact replied_asking .verdict (setAddr_asking a)
  | write8 a v => exact replied_asking .verdict (write8_asking a v)
  | write16 a v => exact replied_asking .verdict (write16_asking a v)
  | write24 a v => exact replied_asking .verdict (write24_asking a v)
  | read8 a => exact replied_asking .byte (read8_asking a)
  | read16 a => exact replied_asking .word (read16_asking a)
  | ccInit | ccStart | ccIncr | ccRepeat | ccMtemp | ccPdown | ccStandby =>
    exact fun s => replied_asking .verdict (ccWrite_asking _) s
  | clWrite r c => exact replied_asking .verdict (clWrite_asking r)

theorem rejectWord_asking (e : DecodeError) : Semiconj (rejectWord e) (asking rest) (withRequests rest) := by
  cases e <;> exact fun _ => rfl

/-- Settles O7: what the step does with the request taken off commutes with replacing the requests that are left. -/
theorem commandsDoNotOverlap : Obligations.CommandsDoNotOverlap := by
  intro s w rest
  change step (asking (w :: rest) s) = withRequests rest (step (asking [w] s))
  cases d : decode s.cfg w with
  | ok i =>
    rw [step_decoded (s := asking (w :: rest) s) rfl d, step_decoded (s := asking [w] s) rfl d]
    exact exec_asking i (asking [] s)
  | error e =>
    rw [step_rejected (s := asking (w :: rest) s) rfl d, step_rejected (s := asking [w] s) rfl d]
    exact rejectWord_asking e (asking [] s)

end Sys2Proof.Machine
end

section
/-! PROOF. The control words with other selectors (42 section 2, log 12): a command's meaning is fixed by its function code,
CL_WRITE's by its reset bit, and the fields that copy the block's registers are not looked at. -/

namespace Sys2Proof.Machine

/-- The function code of a control-byte command, whatever selectors stand in its word (30 rule R97). -/
def controlCode (c : Config) : Instr → Option (BitVec 4)
  | .ccInit .. => some c.fcInit
  | .ccStart .. => some c.fcStart
  | .ccIncr .. => some c.fcIncr
  | .ccRepeat .. => some c.fcRepeat
  | .ccMtemp .. => some c.fcMtemp
  | .ccPdown .. => some c.fcPdown
  | .ccStandby .. => some c.fcStandby
  | _ => none

/-- A control-byte command is the write of its function code beside the selectors of `RG_VR`, `RG_PGA` (42 rule R165). -/
theorem exec_of_controlCode {i : Instr} {fc : BitVec 4} {s : State} (h : controlCode s.cfg i = some fc) :
    exec i s = replyVerdict (ccWrite fc (issueAs .sequencer s)) := by
  cases i with
  | ccInit | ccStart | ccIncr | ccRepeat | ccMtemp | ccPdown | ccStandby =>
    obtain rfl := Option.some.inj h
    rfl
  | _ => exact nomatch h

theorem exec_eq_of_controlCode_eq {i j : Instr} {fc : BitVec 4} {s : State} (hi : controlCode s.cfg i = some fc)
    (hj : controlCode s.cfg j = some fc) : exec i s = exec j s :=
  (exec_of_controlCode hi).trans (exec_of_controlCode hj).symm

/-- CL_WRITE takes its clock-source bit from `CLKSEL` (42 rule R167), so the bit of its word is free. -/
theorem exec_clWrite (r c : BitVec 1) (s : State) :
    exec (.clWrite r c) s = replyVerdict (clWrite r (issueAs .sequencer s)) := rfl

/-- Settles O16: the two words of each clause have the same function code, or the same reset bit. -/
theorem controlWordsTakeSelectorsFromRegisters : Obligations.ControlWordsTakeSelectorsFromRegisters := by
  intro s vr pga r c
  constructor
  · refine ⟨?_, ?_, ?_, ?_, ?_, ?_, ?_⟩ <;> exact exec_eq_of_controlCode_eq rfl rfl
  · rw [exec_clWrite, exec_clWrite]

end Sys2Proof.Machine
end
